-- ==== Sys2Proof/Word.lean ====
section
/-! DEFINITION. The widths of DMX4's quantities (R7, R20, R71). Every quantity is unsigned (R8); none is wider than
one byte except the 12-bit event word, which names an operation and is never stored by the hardware (R71). -/

namespace Sys2Proof

/-- `PAT_WIDTH` and `ADC_WIDTH`: a Digit Pattern and a conversion result are 8 bits (R7). -/
abbrev Byte := BitVec 8

/-- A digit position, 0 (leftmost, thousands) to 3 (units): `CUR_WIDTH` is 2 bits (R7, R21). -/
abbrev Digit := BitVec 2

/-- Four lines or four mark bits, bit `k` for digit position `k` (R30, R37). -/
abbrev Lines := BitVec 4

/-- The 3-bit sequencer phase (R25). -/
abbrev Phase := BitVec 3

/-- An event word `w[11:0]`: opcode in `w[11:8]`, operand in `w[7:0]` (R71). -/
abbrev EventWord := BitVec 12

end Sys2Proof
end

