-- ==== Sys2Proof/Syntax.lean ====
section
/-! DEFINITION. The fourteen operations of DMX4 (R70), one constructor per row of `spec/opcode_table.json`, and the
agent that owns each (R10, R73). -/

namespace Sys2Proof

/-- The fourteen atomic operations (R70). Operands: `ADCDONE` carries the drawn conversion result (format V),
`PUBW` a digit position (format I); the other twelve have none (format N) (R72, R75). -/
inductive Instr where
  /-- `RST`, system start (R140). -/
  | rst
  /-- `INIT`, the external initialisation has finished (R141). -/
  | init
  /-- `TICKIN`, the tick source signals one tick (R90). -/
  | tickin
  /-- `ADCDONE v`, the converter completes a conversion with result `v` (R104). -/
  | adcdone (v : Byte)
  /-- `TICK`, the tick handler (R91). -/
  | tick
  /-- `CONV`, the conversion-complete handler (R105). -/
  | conv
  /-- `PUBW i`, one element of a split publish (R111). -/
  | pubw (i : Digit)
  /-- `ARM`, arm the converter and load the settling delay (R100). -/
  | arm
  /-- `WAIT`, one time unit of the settling delay (R101). -/
  | wait
  /-- `TRIG`, request one conversion (R102). -/
  | trig
  /-- `RDCUR`, step (2), read the Cursor (R121). -/
  | rdcur
  /-- `SELPAT`, step (3), select the pattern at that index (R122). -/
  | selpat
  /-- `WRPAT`, step (4), write the pattern output (R123). -/
  | wrpat
  /-- `SELDIG`, step (5), assert one digit-select line (R124). -/
  | seldig
deriving DecidableEq, Repr

/-- The five agents that own the transitions (R10). -/
inductive Agent where
  /-- ENV-HOST: the reset line and the external initialisation collaborator. -/
  | envHost
  /-- ENV-TIMER: the periodic tick source. -/
  | envTimer
  /-- ENV-ADC: the analog front end. -/
  | envAdc
  /-- IRQ: the interrupt service agent. -/
  | irq
  /-- SEQ: the multiplexer sequencer, the main loop. -/
  | seq
deriving DecidableEq, Repr

/-- Which agent owns an operation (R10, and the agent column of R73). -/
def Instr.agent : Instr → Agent
  | .rst => .envHost
  | .init => .envHost
  | .tickin => .envTimer
  | .adcdone _ => .envAdc
  | .tick => .irq
  | .conv => .irq
  | .pubw _ => .irq
  | .arm => .seq
  | .wait => .seq
  | .trig => .seq
  | .rdcur => .seq
  | .selpat => .seq
  | .wrpat => .seq
  | .seldig => .seq

/-- Whether an operation is a transition of the sequencer (R10). -/
def Instr.isSeq (i : Instr) : Bool := i.agent == .seq

end Sys2Proof
end

