-- ==== Sys2Proof/Decode.lean ====
section
/-! DEFINITION. The decoder of R71 to R81, total on every 12-bit event word and rejecting by name; after it the
encoder, written from the same opcode map (R73). -/

namespace Sys2Proof

/-- Why a word names no operation. -/
inductive DecodeError where
  /-- `op = 0x7` or `op = 0xF` (R76) -/
  | reservedOpcode
  /-- a reserved operand bit is 1 (R77) -/
  | reservedOperand
deriving DecidableEq, Repr

/-- What a word decodes to. -/
inductive Decoded where
  | instr (i : Instr)
  | bad (e : DecodeError)
deriving DecidableEq, Repr

/-- `w[11:8]` (R71). -/
def opField (w : EventWord) : BitVec 4 := w.extractLsb' 8 4

/-- `w[7:0]`: the operand, and format V's `v` (R71, R75). -/
def argField (w : EventWord) : Byte := w.extractLsb' 0 8

/-- `w[1:0]`: format I's `i` (R75). -/
def indexField (w : EventWord) : Digit := w.extractLsb' 0 2

/-- One row of the opcode map: a word `w` names the row's operation when `w &&& mask = bits` (R73). -/
structure OpRow where
  mnemonic : String
  bits : EventWord
  mask : EventWord
  build : EventWord → Instr

/-- The opcode map, row for row (R73; `spec/opcode_table.json`). -/
def opcodeRows : List OpRow :=
  [ ⟨"RST",     0x000, 0xFFF, fun _ => .rst⟩,
    ⟨"INIT",    0x100, 0xFFF, fun _ => .init⟩,
    ⟨"TICKIN",  0x200, 0xFFF, fun _ => .tickin⟩,
    ⟨"ADCDONE", 0x300, 0xF00, fun w => .adcdone (argField w)⟩,
    ⟨"TICK",    0x400, 0xFFF, fun _ => .tick⟩,
    ⟨"CONV",    0x500, 0xFFF, fun _ => .conv⟩,
    ⟨"PUBW",    0x600, 0xFFC, fun w => .pubw (indexField w)⟩ ] ++
  [ ⟨"ARM",     0x800, 0xFFF, fun _ => .arm⟩,
    ⟨"WAIT",    0x900, 0xFFF, fun _ => .wait⟩,
    ⟨"TRIG",    0xA00, 0xFFF, fun _ => .trig⟩,
    ⟨"RDCUR",   0xB00, 0xFFF, fun _ => .rdcur⟩,
    ⟨"SELPAT",  0xC00, 0xFFF, fun _ => .selpat⟩,
    ⟨"WRPAT",   0xD00, 0xFFF, fun _ => .wrpat⟩,
    ⟨"SELDIG",  0xE00, 0xFFF, fun _ => .seldig⟩ ]

/-- Does the word match the row (R73)? -/
def OpRow.hits (r : OpRow) (w : EventWord) : Bool := w &&& r.mask == r.bits

/-- Two opcodes are reserved (R76). -/
def opReserved (w : EventWord) : Bool := opField w == 0x7 || opField w == 0xF

/-- The decoder: the row the word matches, or the name of what is wrong with it (R73, R76, R77, R80). -/
def decode (w : EventWord) : Decoded :=
  match opcodeRows.find? (fun r => r.hits w) with
  | some r => .instr (r.build w)
  | none => .bad (if opReserved w then .reservedOpcode else .reservedOperand)

/-- An event word from its opcode and operand, `{op, arg}` (R71). -/
def assemble (op : BitVec 4) (arg : Byte) : EventWord := op ++ arg

/-- The event word of an operation (R72, R73, R75). -/
def encode : Instr → EventWord
  | .rst => assemble 0x0 0
  | .init => assemble 0x1 0
  | .tickin => assemble 0x2 0
  | .adcdone v => assemble 0x3 v
  | .tick => assemble 0x4 0
  | .conv => assemble 0x5 0
  | .pubw i => assemble 0x6 (i.setWidth 8)
  | .arm => assemble 0x8 0
  | .wait => assemble 0x9 0
  | .trig => assemble 0xA 0
  | .rdcur => assemble 0xB 0
  | .selpat => assemble 0xC 0
  | .wrpat => assemble 0xD 0
  | .seldig => assemble 0xE 0

/-- The low `nbits` bits of a number, when they are an event word: 12 bits, so a number with a bit above bit 11 is
none (R71, R81; log entry 8). -/
def tableWord (nbits w : Nat) : Option EventWord :=
  if w % 2 ^ nbits < 4096 then some (BitVec.ofNat 12 (w % 2 ^ nbits)) else none

/-- The operation the decoder reads from a row of the opcode table whose bits are `w`. An event word is one 12-bit
quantity that is never stored in bytes, so there is no byte order to lay it out in (R71, D36). -/
def decodeTableWord (nbits w : Nat) : Option Instr :=
  match tableWord nbits w with
  | some e =>
    match decode e with
    | .instr i => some i
    | .bad _ => none
  | none => none

end Sys2Proof
end

