-- ==== Sys2Proof/Config.lean ====
section
/-! DEFINITION. The OPEN parameters of R7, as plain data: an argument of the model, held in `State` and written by no
step, so that a statement over every state is a statement over every value of every parameter. The FIXED parameters
(the bounds, the table, the settling count) are in `Machine/Operands.lean`. -/

namespace Sys2Proof

/-- Four 8-bit digit patterns, one per digit position (R22). -/
structure Patterns where
  /-- position 0, thousands, leftmost -/
  d0 : Byte
  /-- position 1, hundreds -/
  d1 : Byte
  /-- position 2, tens -/
  d2 : Byte
  /-- position 3, units -/
  d3 : Byte
deriving DecidableEq, Repr

/-- `PUBLISH_MODE` (R7, R61, C2): are the four patterns latched in one transition? -/
inductive PublishMode where
  | atomic
  | split
deriving DecidableEq, Repr

/-- `SEL_SRC` (R7, R124, C4): which cursor value step (5) of the loop uses. -/
inductive SelSrc where
  | cur
  | idx
deriving DecidableEq, Repr

/-- `IRQ_PRIORITY` (R7, R159): which handler runs first when both sources are pending. -/
inductive IrqPriority where
  /-- the spec's value `open`: either handler may run first -/
  | eitherFirst
  | tickFirst
  | convFirst
deriving DecidableEq, Repr

/-- `ADC_MODEL` (R7, R104, C3): when the environment may deliver a conversion result. -/
inductive AdcModel where
  | free
  | oneShot
deriving DecidableEq, Repr

/-- `OUT_RESET` (R7, R41): the two display outputs at reset. -/
structure OutReset where
  seg : Byte
  dselN : Lines
deriving DecidableEq, Repr

/-- One draw of the values of the registers whose reset value is unspecified (R41, U4). `dly` is drawn in 0 to 20
because R42 item (c) bounds `DLY` by 20 in every state reachable from reset (DEDUCED, log entry 4). -/
structure ResetDraw where
  idx : Digit
  pbuf : Byte
  dly : Fin 21
  cdata : Byte
deriving DecidableEq, Repr, Inhabited

/-- What the unspecified registers hold in `State.reset`: R41's `default 0` for `IDX`, `PBUF` and `DLY`; for `CDATA` R41
gives no default and zero is a DESIGN CHOICE (log entry 3). -/
def ResetDraw.zero : ResetDraw := { idx := 0, pbuf := 0, dly := 0, cdata := 0 }

/-- What the `n`-th `RST` leaves in the unspecified registers: a draw (R41), a free value that nothing constrains beyond
its type (log entry 3). -/
opaque Config.freeResetDraw : Nat → ResetDraw

/-- The OPEN parameters of R7. -/
structure Config where
  publishMode : PublishMode
  selSrc : SelSrc
  irqPriority : IrqPriority
  adcModel : AdcModel
  /-- `CUR_RESET`, in 0 to 3 -/
  curReset : Digit
  /-- `PAT_RESET`, four bytes -/
  patReset : Patterns
  outReset : OutReset
  /-- `TICK_PERIOD` in milliseconds; no rule depends on it (R96, R199; log entry 9) -/
  tickPeriodMs : Nat
  /-- `SETTLE_UNIT`, the length of a settling time unit in microseconds where an integrator gives one; no rule depends
  on it (R101, R199; log entry 9) -/
  settleUnitUs : Option Nat
deriving DecidableEq, Repr

/-- The defaults of R7. -/
def Config.standard : Config where
  publishMode := .atomic
  selSrc := .cur
  irqPriority := .eitherFirst
  adcModel := .free
  curReset := 0
  patReset := { d0 := 0, d1 := 0, d2 := 0, d3 := 0 }
  outReset := { seg := 0x00, dselN := 0b1111 }
  tickPeriodMs := 100
  settleUnitUs := none

end Sys2Proof
end

