-- ==== Sys2Proof/Machine/State.lean ====
section
/-! DEFINITION. The 85 bits of DMX4's state (R20), one field per register (R46), and beside them the model's own
fields: the OPEN parameters, the events still to be offered, and the counts of resets and of `adc_start`
pulses. The reasons a step can stop; the state after reset (R41). -/

namespace Sys2Proof.Machine

/-- DMX4 has no fault: the list of exception causes is empty (R150), so this type has no constructor. -/
inductive Fault where
deriving DecidableEq, Repr

/-- Why an offered event is not a transition of DMX4. A refusal leaves no next state, because a refused event changes
nothing (R79); all of these are safe. -/
inductive Refusal where
  /-- No meaning yet. Raised by `exec`'s refused arms only; there is none left. -/
  | notModelled (mnemonic : String)
  /-- Raised by `step`: no event is offered, so no transition happens (R10). Safe: nothing is claimed of a state in
  which no agent acts. -/
  | noEvent
  /-- Raised by `step`: the word matches no row of the opcode map (R76, R77, R79 case (a)). Safe: refused by the spec. -/
  | namesNoOperation (w : EventWord)
  /-- Raised by a meaning: the operation's `pre:` is false in this state (R79 case (b)). Safe: refused by the spec. -/
  | notEnabled (i : Instr)
  /-- Raised by `PUBW`: the row code is 3, which no rule gives a row (R83, U22: stuck, no defined effect; log entry 7). Safe; no
  state reachable from reset has that code. -/
  | bandCodeThree
deriving DecidableEq, Repr

/-- A Sample Band, one of exactly three (R24, R107). -/
inductive Band where
  | low
  | mid
  | high
deriving DecidableEq, Repr

/-- The two interrupt sources: 0 the tick, 1 the conversion complete (R152). -/
inductive IrqSource where
  | tick
  | conv
deriving DecidableEq, Repr

/-- The complete state (R20); after the eighteen registers, the model's own fields. -/
structure State where
  /-- `CUR`, the Cursor (R21) -/
  cur : Digit
  /-- `PAT[0..3]`, the Digit Pattern Set (R22) -/
  pat : Patterns
  /-- `PHASE`, the phase of the next sequencer transition (R25) -/
  phase : Phase
  /-- `IDX`, the Cursor as read at step (2) (R26) -/
  idx : Digit
  /-- `PBUF`, the pattern selected at step (3) (R27) -/
  pbuf : Byte
  /-- `DLY`, settling time units still to be waited (R28) -/
  dly : BitVec 5
  /-- `SEG`, the segment output (R29) -/
  seg : Byte
  /-- `DSEL_N`, the digit-select output, active low (R30) -/
  dselN : Lines
  /-- `ADEN`, the converter has been armed (R31) -/
  aden : Bool
  /-- `GIE`, the global interrupt enable (R32) -/
  gie : Bool
  /-- `RUN`, initialisation has finished (R33) -/
  run : Bool
  /-- `TPEND`, the tick-pending latch (R34) -/
  tpend : Bool
  /-- `CPEND`, the conversion-complete-pending latch (R35) -/
  cpend : Bool
  /-- `CDATA`, the newest conversion result (R36) -/
  cdata : Byte
  /-- `PUBMASK`, the elements a split publish has still to write (R37) -/
  pubmask : Lines
  /-- `PROW`, the band code of the row a split publish is writing (R37) -/
  prow : BitVec 2
  /-- `ADSTARTED`, a conversion has been requested since reset (R38) -/
  adstarted : Bool
  /-- `ADBUSY`, a conversion has been requested and not completed (R38) -/
  adbusy : Bool
  /-- model: the OPEN parameters of R7, written by no step (log entry 1) -/
  cfg : Config
  /-- model: how many `adc_start` pulses have been emitted; the pulse itself is an output, not state (R31; log entry 5) -/
  adcStarts : Nat
  /-- model: how many `RST` have run; it names the draw of the next one (R41, U4; log entry 3) -/
  resetCount : Nat
  /-- model: the event words still to be offered, oldest first: which agent acts next (R10; log entry 2) -/
  events : List EventWord
deriving DecidableEq, Repr

/-- The state right after reset under the parameters `cfg`, when the unspecified registers hold the values `d`
(R41, R182, R183). -/
def State.afterReset (cfg : Config) (d : ResetDraw) : State where
  cur := cfg.curReset
  pat := cfg.patReset
  phase := 0
  idx := d.idx
  pbuf := d.pbuf
  dly := BitVec.ofNat 5 d.dly.val
  seg := cfg.outReset.seg
  dselN := cfg.outReset.dselN
  aden := false
  gie := false
  run := false
  tpend := false
  cpend := false
  cdata := d.cdata
  pubmask := 0
  prow := 0
  adstarted := false
  adbusy := false
  cfg := cfg
  adcStarts := 0
  resetCount := 0
  events := []

/-- The same state under other OPEN parameters, to compare two configurations; no step does this. -/
def State.withCfg (s : State) (c : Config) : State := { s with cfg := c }

/-- The state after reset with R7's defaults and the unspecified registers at zero (R41; log entries 1, 3). -/
def State.reset : State := State.afterReset Config.standard ResetDraw.zero

end Sys2Proof.Machine
end

