-- ==== Sys2Proof/Machine/Operands.lean ====
section
/-! DEFINITION. The constants of the hardware and every value an operation computes from its operands: the band of a
reading, the table `ROW`, the one-cold select code, the settling count, the index step (5) uses, the reset draw. -/

namespace Sys2Proof.Machine

/-- `SETTLE`, the settling delay in time units (R7, R28). -/
def settle : BitVec 5 := 20

/-- `LOW_MAX`, the upper bound of Low (R7, R24). -/
def lowMax : Byte := 50

/-- `MID_MAX`, the upper bound of Mid; High is the rest (R7, R24). -/
def midMax : Byte := 100

/-- The classification function, on the unsigned 8-bit result (R107). -/
def bandOf (v : Byte) : Band :=
  if v ≤ lowMax then .low else if v ≤ midMax then .mid else .high

/-- The closed range of a band (R24). -/
def bandRange : Band → Nat × Nat
  | .low => (0, 50)
  | .mid => (51, 100)
  | .high => (101, 255)

/-- One independent range check; a band found by an earlier check is replaced (R109, last-checked-wins). -/
def checkBand (v : Byte) (found : Option Band) (b : Band) : Option Band :=
  if (bandRange b).1 ≤ v.toNat && v.toNat ≤ (bandRange b).2 then some b else found

/-- The classifier as the source describes it, three independent range checks in the order Low, Mid, High (R109, D22).
`bandOf` is the function the machine uses (R107). -/
def bandByChecks (v : Byte) : Option Band := [Band.low, Band.mid, Band.high].foldl (checkBand v) none

/-- The band code (R83). -/
def bandCode : Band → BitVec 2
  | .low => 0
  | .mid => 1
  | .high => 2

/-- The band of a code; 3 is unused (R83). -/
def bandOfCode (c : BitVec 2) : Option Band :=
  if c = 0 then some .low else if c = 1 then some .mid else if c = 2 then some .high else none

/-- The constant table `ROW`, one row per band (R23). -/
def row : Band → Patterns
  | .low => { d0 := 0x7C, d1 := 0xF7, d2 := 0x0E, d3 := 0xF7 }
  | .mid => { d0 := 0x7C, d1 := 0x06, d2 := 0xF9, d3 := 0x54 }
  | .high => { d0 := 0xF7, d1 := 0x38, d2 := 0x78, d3 := 0xF7 }

/-- `TABLE_BYTES`, the bytes of the table, eight distinct values (R23). -/
def tableBytes : List Byte := [0x7C, 0xF7, 0x0E, 0x06, 0xF9, 0x54, 0x38, 0x78]

/-- `PatRead(i)`: element `i` of a pattern set (R64). Every 2-bit index is in range (R52). -/
def patRead (p : Patterns) (i : Digit) : Byte :=
  if i = 0 then p.d0 else if i = 1 then p.d1 else if i = 2 then p.d2 else p.d3

/-- `PAT[i] <- v`: replace one element (R64). -/
def patWrite (p : Patterns) (i : Digit) (v : Byte) : Patterns :=
  if i = 0 then { p with d0 := v }
  else if i = 1 then { p with d1 := v }
  else if i = 2 then { p with d2 := v }
  else { p with d3 := v }

/-- `RowRead(b, i) = ROW[b][i]` (R64). -/
def rowRead (b : Band) (i : Digit) : Byte := patRead (row b) i

/-- `AdcRead() = CDATA`, with no side effect (R55, R64). -/
def adcRead (s : State) : Byte := s.cdata

/-- The digit-select code `~(1 << c)` at width 4: exactly one line low (R82). -/
def onecold (c : Digit) : Lines := ~~~(1#4 <<< c.toNat)

/-- The position step (5) selects: the live Cursor, or the one read at step (2) (R124). -/
def selectIndex (s : State) : Digit :=
  match s.cfg.selSrc with
  | .cur => s.cur
  | .idx => s.idx

/-- The values a reset gives the registers whose reset value is unspecified: a free draw for each reset (R41, U4). -/
def resetDraw (s : State) : ResetDraw := Config.freeResetDraw s.resetCount

/-- Whether element `i` of a split publish is still to be written: `PUBMASK[i]` (R37). -/
def stillToWrite (m : Lines) (i : Digit) : Bool := m.getLsbD i.toNat

/-- `PUBMASK[i] <- 0` (R111). -/
def clearMark (m : Lines) (i : Digit) : Lines := m &&& ~~~(1#4 <<< i.toNat)

end Sys2Proof.Machine
end

