-- ==== Sys2Proof/Machine/Flags.lean ====
section
/-! DEFINITION. The pending latches, which are DMX4's flags (R43), the arbitration between the two interrupt sources,
and the enabling condition `pre:` of every operation. -/

namespace Sys2Proof.Machine

/-- The source's pending latch (R153, R154). -/
def pending (src : IrqSource) (s : State) : Bool :=
  match src with
  | .tick => s.tpend
  | .conv => s.cpend

/-- A handler is in progress: `PUBMASK != 0` (R37, R164). -/
def handlerInProgress (s : State) : Bool := s.pubmask != 0

/-- `IRQ_PRIORITY` holds the source back while the other one is pending (R159). -/
def heldBack (src : IrqSource) (s : State) : Bool :=
  match src, s.cfg.irqPriority with
  | .tick, .convFirst => s.cpend
  | .conv, .tickFirst => s.tpend
  | .tick, .eitherFirst => false
  | .tick, .tickFirst => false
  | .conv, .eitherFirst => false
  | .conv, .convFirst => false

/-- When a handler's first transition is enabled: interrupts enabled, the source pending, no handler in progress, not
held back; there is no condition on `PHASE` (R160). -/
def handlerMayStart (src : IrqSource) (s : State) : Bool :=
  s.gie && pending src s && !handlerInProgress s && !heldBack src s

/-- A sequencer transition of phase `k` is enabled (R74, R100 to R102, R121 to R124). -/
def seqAt (k : Phase) (s : State) : Bool := s.run && s.phase == k

/-- `INIT`: `RUN = 0` (R141). -/
def initEnabled (s : State) : Bool := !s.run

/-- `TICKIN`: `RUN = 1` (R90). -/
def tickinEnabled (s : State) : Bool := s.run

/-- `ADCDONE`: `ADSTARTED = 1` under `free`, `ADBUSY = 1` under `one_shot` (R104). -/
def adcdoneEnabled (s : State) : Bool :=
  match s.cfg.adcModel with
  | .free => s.adstarted
  | .oneShot => s.adbusy

/-- `PUBW i`: `PUBLISH_MODE = split` and `PUBMASK[i] = 1` (R78, R111). -/
def pubwEnabled (i : Digit) (s : State) : Bool :=
  s.cfg.publishMode == .split && stillToWrite s.pubmask i

/-- The enabling condition of every operation (the `Enabled when` line of its rule). -/
def enabled (i : Instr) (s : State) : Bool :=
  match i with
  | .rst => true
  | .init => initEnabled s
  | .tickin => tickinEnabled s
  | .adcdone _ => adcdoneEnabled s
  | .tick => handlerMayStart .tick s
  | .conv => handlerMayStart .conv s
  | .pubw i => pubwEnabled i s
  | .arm => seqAt 0 s
  | .wait => seqAt 1 s
  | .trig => seqAt 2 s
  | .rdcur => seqAt 3 s
  | .selpat => seqAt 4 s
  | .wrpat => seqAt 5 s
  | .seldig => seqAt 6 s

end Sys2Proof.Machine
end

