-- ==== Sys2Proof/Machine/Ops.lean ====
section
/-! DEFINITION. The named updates of the state that the fourteen meanings are made of, interrupt entry and return as
shared operations, and how an event is fetched. All writes listed in one update take effect together and read the
state before it (R8). -/

namespace Sys2Proof.Machine

/-- An operation with its `pre:`: the transition when it holds, a refusal that changes nothing when it does not
(R10, R79). -/
def guarded (pre : Bool) (i : Instr) (t : State) : Host.Outcome State Fault Refusal :=
  if pre then .next t else .refused (.notEnabled i)

/-! ### Reset and initialisation -/

/-- Every register of R20 takes its reset value of R41; the unspecified ones take a draw (R140). -/
def resetRegisters (s : State) : State :=
  { s with
    cur := s.cfg.curReset
    pat := s.cfg.patReset
    phase := 0
    idx := (resetDraw s).idx
    pbuf := (resetDraw s).pbuf
    dly := BitVec.ofNat 5 (resetDraw s).dly.val
    seg := s.cfg.outReset.seg
    dselN := s.cfg.outReset.dselN
    aden := false
    gie := false
    run := false
    tpend := false
    cpend := false
    cdata := (resetDraw s).cdata
    pubmask := 0
    prow := 0
    adstarted := false
    adbusy := false
    resetCount := s.resetCount + 1 }

/-- `GIE <- 1; RUN <- 1` (R141). -/
def startLoop (s : State) : State := { s with gie := true, run := true }

/-! ### Interrupts: raising, entry, return -/

/-- A source signals: its pending latch is set; a second signal while it is set merges with the first (R153, R154, R156). -/
def raiseIrq (src : IrqSource) (s : State) : State :=
  match src with
  | .tick => { s with tpend := true }
  | .conv => { s with cpend := true }

/-- Interrupt entry. The handler acknowledges its source by clearing its latch (R158); nothing is saved, no mode and no
enable changes, and control goes to the source's one fixed handler (R161, R162). -/
def enterHandler (src : IrqSource) (s : State) : State :=
  match src with
  | .tick => { s with tpend := false }
  | .conv => { s with cpend := false }

/-- Return from a handler: nothing is restored and `GIE` is not touched; the sequencer goes on with the transition
`PHASE` names (R161, R165). -/
def leaveHandler (s : State) : State := s

/-! ### Digit Scheduler -/

/-- `CUR <- (CUR + 1) mod 4`, 2-bit wrap-around (R91). -/
def advanceCursor (s : State) : State := { s with cur := s.cur + 1 }

/-! ### Sampler/Classifier -/

/-- `ADEN <- 1; DLY <- 20; PHASE <- 1` (R100). -/
def armConverter (s : State) : State := { s with aden := true, dly := settle, phase := 1 }

/-- `DLY <- DLY - 1; PHASE <- 2 if DLY - 1 = 0 else 1` (R101). At `DLY = 0`, which no reachable state has at
`PHASE = 1`, the 5-bit subtraction wraps (R150; DEDUCED, log entry 6). -/
def waitUnit (s : State) : State :=
  { s with dly := s.dly - 1, phase := if s.dly - 1 = 0 then 2 else 1 }

/-- One `adc_start` pulse; `ADSTARTED <- 1; ADBUSY <- 1; PHASE <- 3` (R102). -/
def requestConversion (s : State) : State :=
  { s with adcStarts := s.adcStarts + 1, adstarted := true, adbusy := true, phase := 3 }

/-- `CDATA <- v; ADBUSY <- 0`; the pending latch is raised beside it (R104). -/
def latchResult (v : Byte) (s : State) : State := { s with cdata := v, adbusy := false }

/-- The atomic pattern latch: all four elements in one transition (R61, R105). -/
def latchRow (b : Band) (s : State) : State := { s with pat := row b }

/-- The split publish begins: `PROW <- b; PUBMASK <- 0b1111`; `PAT` is not written (R105). -/
def beginPublish (b : Band) (s : State) : State := { s with prow := bandCode b, pubmask := 0b1111 }

/-- One element of the split publish: `PAT[i] <- ROW[PROW][i]; PUBMASK[i] <- 0` (R111). -/
def writeElement (b : Band) (i : Digit) (s : State) : State :=
  { s with pat := patWrite s.pat i (rowRead b i), pubmask := clearMark s.pubmask i }

/-- Publish a band's row in the configured mode (R105). -/
def publish (b : Band) (s : State) : State :=
  match s.cfg.publishMode with
  | .atomic => leaveHandler (latchRow b s)
  | .split => beginPublish b s

/-! ### Display Multiplexer -/

/-- `IDX <- CUR; PHASE <- 4` (R121). -/
def readCursor (s : State) : State := { s with idx := s.cur, phase := 4 }

/-- `PBUF <- PAT[IDX]; PHASE <- 5` (R122). -/
def selectPattern (s : State) : State := { s with pbuf := patRead s.pat s.idx, phase := 5 }

/-- `SEG <- PBUF; PHASE <- 6` (R123). -/
def writeSegments (s : State) : State := { s with seg := s.pbuf, phase := 6 }

/-- `DSEL_N <- ~(1 << c); PHASE <- 0` (R124). -/
def selectDigit (s : State) : State := { s with dselN := onecold (selectIndex s), phase := 0 }

/-! ### Offering and fetching events -/

/-- The event offered next and the state in which its operation runs (R10). -/
def fetchEvent (s : State) : Option (EventWord × State) :=
  match s.events with
  | [] => none
  | w :: rest => some (w, { s with events := rest })

/-- Offer a word before every other event; a number that is no event word offers nothing (R71, R81). -/
def offerWord (s : State) (w : Option EventWord) : State :=
  match w with
  | some e => { s with events := e :: s.events }
  | none => { s with events := [] }

end Sys2Proof.Machine
end

