-- ==== Sys2Proof/Machine/Multiplexer.lean ====
section
/-! DEFINITION. The Display Multiplexer's four display steps: `RDCUR`, `SELPAT`, `WRPAT`, `SELDIG` (R121 to R124). -/

namespace Sys2Proof.Machine

/-- `RDCUR` (R121). -/
def execRdcur (s : State) : Host.Outcome State Fault Refusal :=
  guarded (seqAt 3 s) .rdcur (readCursor s)

/-- `SELPAT` (R122). -/
def execSelpat (s : State) : Host.Outcome State Fault Refusal :=
  guarded (seqAt 4 s) .selpat (selectPattern s)

/-- `WRPAT` (R123). -/
def execWrpat (s : State) : Host.Outcome State Fault Refusal :=
  guarded (seqAt 5 s) .wrpat (writeSegments s)

/-- `SELDIG` (R124). -/
def execSeldig (s : State) : Host.Outcome State Fault Refusal :=
  guarded (seqAt 6 s) .seldig (selectDigit s)

end Sys2Proof.Machine
end

