-- ==== Sys2Proof/Machine/Sampler.lean ====
section
/-! DEFINITION. The Sampler/Classifier: `ARM`, `WAIT`, `TRIG`, `ADCDONE`, `CONV`, `PUBW` (R100 to R105, R111). -/

namespace Sys2Proof.Machine

/-- `ARM` (R100). -/
def execArm (s : State) : Host.Outcome State Fault Refusal :=
  guarded (seqAt 0 s) .arm (armConverter s)

/-- `WAIT` (R101). -/
def execWait (s : State) : Host.Outcome State Fault Refusal :=
  guarded (seqAt 1 s) .wait (waitUnit s)

/-- `TRIG`: also with a conversion in flight or a result pending (R102, R115). -/
def execTrig (s : State) : Host.Outcome State Fault Refusal :=
  guarded (seqAt 2 s) .trig (requestConversion s)

/-- `ADCDONE v` (R104). -/
def execAdcdone (v : Byte) (s : State) : Host.Outcome State Fault Refusal :=
  guarded (adcdoneEnabled s) (.adcdone v) (raiseIrq .conv (latchResult v s))

/-- `CONV`: enter the conversion handler, classify the newest result, publish its row (R105). -/
def execConv (s : State) : Host.Outcome State Fault Refusal :=
  guarded (handlerMayStart .conv s) .conv (publish (bandOf (adcRead s)) (enterHandler .conv s))

/-- `PUBW i`; with the unused row code 3 it has no defined effect (R111; R83, U22; log entry 7). -/
def execPubw (i : Digit) (s : State) : Host.Outcome State Fault Refusal :=
  match pubwEnabled i s, bandOfCode s.prow with
  | true, none => .refused .bandCodeThree
  | true, some b => .next (leaveHandler (writeElement b i s))
  | false, _ => .refused (.notEnabled (.pubw i))

end Sys2Proof.Machine
end

