-- ==== Sys2Proof/Machine/Scheduler.lean ====
section
/-! DEFINITION. The Digit Scheduler: `TICKIN` and `TICK` (R90, R91). -/

namespace Sys2Proof.Machine

/-- `TICKIN`: the tick source signals; the Cursor does not move (R90). -/
def execTickin (s : State) : Host.Outcome State Fault Refusal :=
  guarded (tickinEnabled s) .tickin (raiseIrq .tick s)

/-- `TICK`: enter the tick handler, advance the Cursor, return (R91). -/
def execTick (s : State) : Host.Outcome State Fault Refusal :=
  guarded (handlerMayStart .tick s) .tick (leaveHandler (advanceCursor (enterHandler .tick s)))

end Sys2Proof.Machine
end

