-- ==== Sys2Proof/Machine/System.lean ====
section
/-! DEFINITION. The system operations `RST` and `INIT` (R140, R141). -/

namespace Sys2Proof.Machine

/-- `RST`: enabled in every state (R140). -/
def execRst (s : State) : Host.Outcome State Fault Refusal := .next (resetRegisters s)

/-- `INIT`: once per reset (R141). -/
def execInit (s : State) : Host.Outcome State Fault Refusal :=
  guarded (initEnabled s) .init (startLoop s)

end Sys2Proof.Machine
end

