-- ==== Sys2Proof/Machine/Dispatch.lean ====
section
/-! DEFINITION. One arm per operation, each one direct call of its meaning. -/

namespace Sys2Proof.Machine

/-- The transition of each operation, in the order of the opcode map (R73). -/
def exec (i : Instr) (s : State) : Host.Outcome State Fault Refusal :=
  match i with
  | .rst => Sys2Proof.Machine.execRst s
  | .init => Sys2Proof.Machine.execInit s
  | .tickin => Sys2Proof.Machine.execTickin s
  | .adcdone v => Sys2Proof.Machine.execAdcdone v s
  | .tick => Sys2Proof.Machine.execTick s
  | .conv => Sys2Proof.Machine.execConv s
  | .pubw k => Sys2Proof.Machine.execPubw k s
  | .arm => Sys2Proof.Machine.execArm s
  | .wait => Sys2Proof.Machine.execWait s
  | .trig => Sys2Proof.Machine.execTrig s
  | .rdcur => Sys2Proof.Machine.execRdcur s
  | .selpat => Sys2Proof.Machine.execSelpat s
  | .wrpat => Sys2Proof.Machine.execWrpat s
  | .seldig => Sys2Proof.Machine.execSeldig s

end Sys2Proof.Machine
end

