-- ==== Sys2Proof/Machine/Step.lean ====
section
/-! DEFINITION. One step: the event offered next is fetched, decoded and run (R10, R79). -/

namespace Sys2Proof.Machine

/-- One transition of some agent, or the refusal of the event offered (R10, R79, R151). -/
def step (s : State) : Host.Outcome State Fault Refusal :=
  match fetchEvent s with
  | none => .refused .noEvent
  | some (w, s') =>
    match decode w with
    | .instr i => exec i s'
    | .bad _ => .refused (.namesNoOperation w)

/-- The state with the word offered as its next event (log entry 2). -/
def State.withFetchWord (s : State) (nbits w : Nat) : State := offerWord s (tableWord nbits w)

end Sys2Proof.Machine
end

