-- ==== Sys2Proof/Machine/Ownership.lean ====
section
/-! DEFINITION. The registers as data, and the ownership matrix of R39: which operation may read and which may write
each. `RST` writes everything and is left out of the matrix. -/

namespace Sys2Proof.Machine

/-- A register of R20; the four elements of `PAT` are apart. -/
inductive Reg where
  | cur
  | pat (i : Digit)
  | phase
  | idx
  | pbuf
  | dly
  | seg
  | dselN
  | aden
  | gie
  | run
  | tpend
  | cpend
  | cdata
  | pubmask
  | prow
  | adstarted
  | adbusy
deriving DecidableEq, Repr

/-- The width of a register (R20). -/
def Reg.width : Reg → Nat
  | .cur => 2
  | .pat _ => 8
  | .phase => 3
  | .idx => 2
  | .pbuf => 8
  | .dly => 5
  | .seg => 8
  | .dselN => 4
  | .aden => 1
  | .gie => 1
  | .run => 1
  | .tpend => 1
  | .cpend => 1
  | .cdata => 8
  | .pubmask => 4
  | .prow => 2
  | .adstarted => 1
  | .adbusy => 1

/-- Every register once (R20). -/
def Reg.all : List Reg :=
  [.cur, .pat 0, .pat 1, .pat 2, .pat 3, .phase, .idx, .pbuf, .dly, .seg, .dselN] ++
  [.aden, .gie, .run, .tpend, .cpend, .cdata, .pubmask, .prow, .adstarted, .adbusy]

/-- The value of a register, as an unsigned number (R8). -/
def regValue (s : State) : Reg → Nat
  | .cur => s.cur.toNat
  | .pat i => (patRead s.pat i).toNat
  | .phase => s.phase.toNat
  | .idx => s.idx.toNat
  | .pbuf => s.pbuf.toNat
  | .dly => s.dly.toNat
  | .seg => s.seg.toNat
  | .dselN => s.dselN.toNat
  | .aden => s.aden.toNat
  | .gie => s.gie.toNat
  | .run => s.run.toNat
  | .tpend => s.tpend.toNat
  | .cpend => s.cpend.toNat
  | .cdata => s.cdata.toNat
  | .pubmask => s.pubmask.toNat
  | .prow => s.prow.toNat
  | .adstarted => s.adstarted.toNat
  | .adbusy => s.adbusy.toNat

/-- The four elements of the pattern set. -/
def patRegs : List Reg := [.pat 0, .pat 1, .pat 2, .pat 3]

/-- The registers an operation other than `RST` may write (R20 owner column, R39, and the operation's own rule). -/
def writes (mode : PublishMode) : Instr → List Reg
  | .rst => Reg.all
  | .init => [.gie, .run]
  | .tickin => [.tpend]
  | .adcdone _ => [.cdata, .cpend, .adbusy]
  | .tick => [.tpend, .cur]
  | .conv =>
    match mode with
    | .atomic => .cpend :: patRegs
    | .split => [.cpend, .prow, .pubmask]
  | .pubw i => [.pat i, .pubmask]
  | .arm => [.aden, .dly, .phase]
  | .wait => [.dly, .phase]
  | .trig => [.adstarted, .adbusy, .phase]
  | .rdcur => [.idx, .phase]
  | .selpat => [.pbuf, .phase]
  | .wrpat => [.seg, .phase]
  | .seldig => [.dselN, .phase]

/-- The registers an operation may read (R39). `TICK` reads `CPEND` and `CONV` reads `TPEND` only where `IRQ_PRIORITY`
makes the enabling condition do so (R97, R105, R159; DEDUCED, log entry 10). -/
def reads (priority : IrqPriority) : Instr → List Reg
  | .rst => []
  | .init => [.run]
  | .tickin => [.run]
  | .adcdone _ => [.adstarted, .adbusy]
  | .tick =>
    match priority with
    | .convFirst => [.cur, .gie, .tpend, .pubmask, .cpend]
    | .eitherFirst => [.cur, .gie, .tpend, .pubmask]
    | .tickFirst => [.cur, .gie, .tpend, .pubmask]
  | .conv =>
    match priority with
    | .tickFirst => [.gie, .cpend, .cdata, .pubmask, .tpend]
    | .eitherFirst => [.gie, .cpend, .cdata, .pubmask]
    | .convFirst => [.gie, .cpend, .cdata, .pubmask]
  | .pubw _ => [.pubmask, .prow]
  | .arm => [.run, .phase]
  | .wait => [.run, .phase, .dly]
  | .trig => [.run, .phase]
  | .rdcur => [.run, .phase, .cur]
  | .selpat => [.run, .phase, .idx] ++ patRegs
  | .wrpat => [.run, .phase, .pbuf]
  | .seldig => [.run, .phase, .cur, .idx]

end Sys2Proof.Machine
end

