-- ==== Sys2Proof/Machine/Trace.lean ====
section
/-! DEFINITION. Traces of operations (R85), the pseudo-operations (R86), and the sequencer's fixed iteration (R120). -/

namespace Sys2Proof.Machine

/-- A trace is a finite sequence of operations (R85). -/
abbrev Trace := List Instr

/-- Run a trace, stopping at the first operation that is refused. -/
def runTrace : Trace → State → Host.Outcome State Fault Refusal
  | [], s => .next s
  | i :: t, s =>
    match exec i s with
    | .next u => runTrace t u
    | .fault r => .fault r
    | .refused r => .refused r

/-- The trace is valid from `s` and ends in `s'`: each operation is enabled in the state the previous ones produce (R85). -/
def Leads (t : Trace) (s s' : State) : Prop := runTrace t s = .next s'

/-- The sequencer's own transitions of a trace, in order. -/
def seqOps (t : Trace) : Trace := t.filter Instr.isSeq

/-- How often an operation occurs in a trace. -/
def occurrences (i : Instr) (t : Trace) : Nat := t.count i

/-- The pseudo-operations of R86. -/
inductive Pseudo where
  | startCycle
  | showDigit
  | iter
  | ticksvc
  | sample (v : Byte)
  /-- `order` is one of the 24 orders of the four positions -/
  | sample4 (v : Byte) (order : List Digit)
  | boot
deriving DecidableEq, Repr

/-- `START_CYCLE`: `ARM; WAIT x20; TRIG` (R86, R103). -/
def startCycleOps : Trace := .arm :: List.replicate settle.toNat .wait ++ [.trig]

/-- `SHOW`: steps (2) to (5) (R86). -/
def showOps : Trace := [.rdcur, .selpat, .wrpat, .seldig]

/-- `ITER`: one iteration, 26 transitions (R86, R120). -/
def iterationOps : Trace := startCycleOps ++ showOps

/-- The expansion of a pseudo-operation (R86). -/
def Pseudo.expand : Pseudo → Trace
  | .startCycle => startCycleOps
  | .showDigit => showOps
  | .iter => iterationOps
  | .ticksvc => [.tickin, .tick]
  | .sample v => [.adcdone v, .conv]
  | .sample4 v order => [.adcdone v, .conv] ++ order.map .pubw
  | .boot => [.rst, .init]

end Sys2Proof.Machine
end

