-- ==== Sys2Proof/Machine/Ports.lean ====
section
/-! DEFINITION. What the environment can do to DMX4 and what it sees of it: the nine ports (R44), the display
observation (R128), and the three execution contexts (R167). -/

namespace Sys2Proof.Machine

/-- The input ports `rst`, `init_done`, `tick`, `conv_done` with `adc_data` (R44). -/
inductive InputSignal where
  | rst
  | initDone
  | tick
  | convDone (adcData : Byte)
deriving DecidableEq, Repr

/-- The event an input signal is (R44, R144). -/
def InputSignal.event : InputSignal → Instr
  | .rst => .rst
  | .initDone => .init
  | .tick => .tickin
  | .convDone v => .adcdone v

/-- The levels of the output ports `adc_enable`, `seg`, `dsel_n` (R44). -/
structure OutputLevels where
  adcEnable : Bool
  seg : Byte
  dselN : Lines
deriving DecidableEq, Repr

/-- The port levels of a state; a write shows in the transition that makes it (R63, R128). -/
def outputLevels (s : State) : OutputLevels := { adcEnable := s.aden, seg := s.seg, dselN := s.dselN }

/-- The output pulse `adc_start`: one at each `TRIG` (R31, R44, R102). -/
def adcStartPulse (i : Instr) : Bool := i == .trig

/-- Digit position `k` is lit when `DSEL_N[k] = 0` (R128). -/
def lit (s : State) (k : Digit) : Bool := !s.dselN.getLsbD k.toNat

/-- The lit positions. -/
def litPositions (s : State) : List Digit := [0, 1, 2, 3].filter (lit s)

/-- The shown pair `(k, SEG)`, `k` the one lit position (R128). -/
def shownPair (s : State) : Option (Digit × Byte) :=
  match litPositions s with
  | [k] => some (k, s.seg)
  | _ => none

/-- The shown pairs at the display points of a trace, the states `SELDIG` reaches (R128). -/
def displayed : Trace → State → List (Option (Digit × Byte))
  | [], _ => []
  | i :: t, s =>
    match exec i s with
    | .next u => if i = .seldig then shownPair u :: displayed t u else displayed t u
    | .fault _ => []
    | .refused _ => []

/-- Whether the display is mismatched after an operation, `m` saying whether it was before. `SELDIG` decides it: the
position it selects (`c5`) is another than the one read at the iteration's `RDCUR` and kept in `IDX` (`c2`). A mismatch
lasts until the next iteration's `WRPAT`; no `TICK`, no `RDCUR` and nothing else changes it (R127). That `RST` ends it is
the model's choice (DESIGN CHOICE, log entry 14). -/
def mismatchAfter (m : Bool) (i : Instr) (s : State) : Bool :=
  match i with
  | .seldig => selectIndex s != s.idx
  | .wrpat => false
  | .rst => false
  | .init => m
  | .tickin => m
  | .adcdone _ => m
  | .tick => m
  | .conv => m
  | .pubw _ => m
  | .arm => m
  | .wait => m
  | .trig => m
  | .rdcur => m
  | .selpat => m

/-- Whether the display is mismatched at the end of a trace from `s` (R127). No register holds this: `RDCUR` overwrites
`IDX` while the mismatch goes on, so it is followed along the trace (log entry 14). -/
def mismatched (m : Bool) : Trace → State → Bool
  | [], _ => m
  | i :: t, s =>
    match exec i s with
    | .next u => mismatched (mismatchAfter m i s) t u
    | .fault _ => m
    | .refused _ => m

/-- The three execution contexts (R167). -/
inductive Context where
  | preInit
  | mainLoop
  | handler
deriving DecidableEq, Repr

/-- The context of a state: pre-init while `RUN = 0`; a handler is in progress across states only in split mode (R163,
R167). -/
def contextOf (s : State) : Context :=
  if !s.run then .preInit else if handlerInProgress s then .handler else .mainLoop

end Sys2Proof.Machine
end

