-- ==== Sys2Proof/WellFormed.lean ====
section
/-! DEFINITION. Which operations exist. An operand's range is its type (R75), so the one check left is R78's: `PUBW`
exists only when `PUBLISH_MODE = split`. Decoding does not depend on the mode (R71); a `PUBW` offered in atomic mode
decodes and is then refused by its meaning (R78, R79). -/

namespace Sys2Proof

/-- The operation exists under this configuration (R70, R78, R111). -/
def Instr.wellFormed (cfg : Config) : Instr → Bool
  | .pubw _ => cfg.publishMode == .split
  | .rst => true
  | .init => true
  | .tickin => true
  | .adcdone _ => true
  | .tick => true
  | .conv => true
  | .arm => true
  | .wait => true
  | .trig => true
  | .rdcur => true
  | .selpat => true
  | .wrpat => true
  | .seldig => true

end Sys2Proof
end

