-- ==== Sys2Proof/Safety.lean ====
section
/-! DEFINITION. What counts as a safe state and a safe run: the invariants of R42, the states an agent is stuck in
(R151), and the cadence and fairness premises a claim may name (R201, R202). A refusal of an event is not unsafe: it is
a verdict on the event, and the state does not change (R79). There is no fault (R150). -/

namespace Sys2Proof.Machine

/-! ### Invariants of a state -/

/-- R42 items (b) to (e): the phase is one of the seven, the settling count is in range, `RUN = GIE`, and the chain from
`ADBUSY` and `CPEND` to `ADSTARTED` to `ADEN`. -/
def ControlInv (s : State) : Prop :=
  s.phase ≠ 7 ∧ s.dly ≤ settle ∧ (s.phase = 1 → 1 ≤ s.dly) ∧ s.run = s.gie ∧
  (s.adbusy = true → s.adstarted = true) ∧ (s.adstarted = true → s.aden = true) ∧
  (s.cpend = true → s.adstarted = true)

/-- What else the rules keep: nothing is armed, pending or past phase 0 before `INIT` (R155, R183, R185); the display
steps come after a `TRIG` (R186); the row code is a band's, and in atomic mode no publish is ever in progress (R37, R83). -/
def ModeInv (s : State) : Prop :=
  (s.aden = true → s.run = true) ∧ (s.tpend = true → s.run = true) ∧ (s.phase ≠ 0 → s.aden = true) ∧
  (3 ≤ s.phase → s.adstarted = true) ∧ (s.pubmask ≠ 0 → s.adstarted = true) ∧ s.prow ≠ 3 ∧
  (s.cfg.publishMode = .atomic → s.pubmask = 0 ∧ s.prow = 0)

/-- The pattern set is one whole row of the table (R42 item (f)). -/
def WholeRow (s : State) : Prop := ∃ b, s.pat = row b

/-- R42 items (f) and (g) without their history: in atomic mode the set is its reset value or a whole row; in split mode
each element is its reset value or that position's byte of some row. -/
def PatternInv (s : State) : Prop :=
  match s.cfg.publishMode with
  | .atomic => s.pat = s.cfg.patReset ∨ WholeRow s
  | .split => ∀ i, patRead s.pat i = patRead s.cfg.patReset i ∨ ∃ b, patRead s.pat i = rowRead b i

/-- `DSEL_N` is one-cold (R42 item (h)). -/
def OneCold (s : State) : Prop := ∃ c, s.dselN = onecold c

/-- The outputs select no more than what they were reset to or one position (R42 item (h) without its history). -/
def SelectInv (s : State) : Prop := s.dselN = s.cfg.outReset.dselN ∨ OneCold s

/-- The invariant every step keeps. -/
def SafeState (s : State) : Prop := ControlInv s ∧ ModeInv s ∧ PatternInv s ∧ SelectInv s

/-- No operation of the agent is enabled (R151). -/
def Stuck (a : Agent) (s : State) : Prop := ∀ i : Instr, i.agent = a → enabled i s = false

/-! ### What a trace contains -/

/-- Only transitions of the other agents, and no reset: what may occur between two sequencer transitions (R120). -/
def OthersOnly (t : Trace) : Prop := ∀ i ∈ t, i.isSeq = false ∧ i ≠ .rst

/-- Steps (2) to (5) of one iteration, with whatever the other agents do in between (R120, R127). -/
def displaySpan (a b c : Trace) : Trace := .rdcur :: a ++ .selpat :: b ++ .wrpat :: c ++ [.seldig]

/-- The trace writes element `i` of the pattern set (R105, R111). -/
def WritesElement (mode : PublishMode) (i : Digit) (t : Trace) : Prop :=
  match mode with
  | .atomic => .conv ∈ t
  | .split => .pubw i ∈ t

/-- How many ticks a trace loses from `s`: the `TICKIN` that find `TPEND = 1` (R94). -/
def lostTicks : Trace → State → Nat
  | [], _ => 0
  | i :: t, s =>
    match exec i s with
    | .next u => (if i = .tickin ∧ s.tpend = true then 1 else 0) + lostTicks t u
    | .fault _ => 0
    | .refused _ => 0

/-- A split-mode counterpart of a trace: every `CONV` is followed by its four element writes (R112). -/
def withElementWrites : Trace → Trace
  | [] => []
  | i :: t => (if i = .conv then [.conv, .pubw 0, .pubw 1, .pubw 2, .pubw 3] else [i]) ++ withElementWrites t

/-- The source's end-to-end program, one multiplex frame of one reading (R129). -/
def frameProgram (v : Byte) : Trace :=
  Pseudo.boot.expand ++ startCycleOps ++ (Pseudo.sample v).expand ++ showOps ++
    (List.replicate 3 (Pseudo.ticksvc.expand ++ iterationOps)).flatten

/-! ### Cadence premises on a trace (R202; log entry 13) -/

/-- `CADENCE_TICK`: between any two `TICKIN` a `TICK` occurs. -/
def CadenceTick (t : Trace) : Prop :=
  ∀ before between after, t = before ++ .tickin :: between ++ .tickin :: after → .tick ∈ between

/-- `CADENCE_SHOW`: between any two `TICK` at least one whole display span occurs. -/
def CadenceShow (t : Trace) : Prop :=
  ∀ before between after, t = before ++ .tick :: between ++ .tick :: after → showOps <:+: seqOps between

/-- `CADENCE_CONV`: between a `SELPAT` and the following `WRPAT` at most one `CONV` occurs. -/
def CadenceConv (t : Trace) : Prop :=
  ∀ before between after, t = before ++ .selpat :: between ++ .wrpat :: after → .wrpat ∉ between →
    occurrences .conv between ≤ 1

/-- `NO_TICK_IN_SHOW`: no `TICK` occurs between a `RDCUR` and the `SELDIG` of the same iteration. -/
def NoTickInShow (t : Trace) : Prop :=
  ∀ before between after, t = before ++ .rdcur :: between ++ .seldig :: after →
    .seldig ∉ between → .rst ∉ between → .tick ∉ between

/-! ### Fairness premises on an unending run (R136, R201; log entry 13) -/

/-- An unending run: the operation at each point leads from its state to the next. -/
structure Run where
  ops : Nat → Instr
  states : Nat → State
  steps : ∀ n, exec (ops n) (states n) = .next (states (n + 1))

/-- `SEQ_FAIR`: when `RUN = 1` SEQ eventually takes its enabled transition. -/
def Run.SeqFair (r : Run) : Prop :=
  ∀ n, (r.states n).run = true → ∃ m, n ≤ m ∧ ((r.ops m).isSeq = true ∨ (r.states m).run = false)

/-- `IRQ_FAIR`: a handler transition that stays enabled eventually occurs. -/
def Run.IrqFair (r : Run) : Prop :=
  ∀ n i, i.agent = .irq → (∀ m, n ≤ m → enabled i (r.states m) = true) → ∃ m, n ≤ m ∧ r.ops m = i

/-- `TIMER_LIVE`: when `RUN = 1`, `TICKIN` occurs again and again. -/
def Run.TimerLive (r : Run) : Prop :=
  ∀ n, (∀ m, n ≤ m → (r.states m).run = true) → ∃ m, n ≤ m ∧ r.ops m = .tickin

/-- `ADC_LIVE`: after each `TRIG`, an `ADCDONE` eventually occurs. -/
def Run.AdcLive (r : Run) : Prop :=
  ∀ n, r.ops n = .trig → ∃ m v, n < m ∧ r.ops m = .adcdone v

/-- `HOST_INIT`: after `RST`, `INIT` eventually occurs, unless another `RST` comes first. -/
def Run.HostInit (r : Run) : Prop :=
  ∀ n, r.ops n = .rst → ∃ m, n < m ∧ (r.ops m = .init ∨ r.ops m = .rst)

end Sys2Proof.Machine
end

