-- ==== Sys2Proof/Certificates/Slice0/Obligations.lean ====
section
/-! DEFINITION. The statements for the provers, as propositions; none is proved here. Each docstring names the rules it
formalises. -/

open Sys2Proof Sys2Proof.Machine

/-! ### Event words -/

/-- R71 to R75: the word of every operation, with every operand, decodes to that operation. -/
def Obligations.EncodedOperationsDecodeBack : Prop := ∀ i : Instr, decode (encode i) = .instr i

/-- R71 to R77: a word that names an operation is that operation's only word. -/
def Obligations.EveryOperationHasOneWord : Prop :=
  ∀ (w : EventWord) (i : Instr), decode w = .instr i → encode i = w

/-- R73, rows of four groups: the words written out from the opcode map and its examples. -/
def Obligations.OpcodeMapWordsDecode : Prop :=
  decode 0x000 = .instr .rst ∧ decode 0x200 = .instr .tickin ∧ decode 0x34B = .instr (.adcdone 75) ∧
  decode 0x602 = .instr (.pubw 2) ∧ decode 0xE00 = .instr .seldig

/-- R73: the rows' matches are pairwise disjoint. -/
def Obligations.OpcodeRowsAreDisjoint : Prop :=
  ∀ (w : EventWord) (r₁ r₂ : OpRow), r₁ ∈ opcodeRows → r₂ ∈ opcodeRows →
    r₁.hits w = true → r₂.hits w = true → r₁.mnemonic = r₂.mnemonic

/-- R76, R77: a reserved opcode, a format N word with an operand and a format I word with a bit above bit 1 of its
operand name no operation and are refused; in `PHASE = 7` no sequencer operation is a transition, nothing but `RST` leads
out of it, and `RST` does. -/
def Obligations.ReservedWordsAreRefused : Prop :=
  (∀ (w : EventWord) (s : State) (rest : List EventWord), s.events = w :: rest →
    (opField w = 0x7 ∨ opField w = 0xF ∨
      (opField w ≠ 0x3 ∧ opField w ≠ 0x6 ∧ argField w ≠ 0) ∨
      (opField w = 0x6 ∧ (argField w).extractLsb' 2 6 ≠ 0)) →
    (∀ i, decode w ≠ .instr i) ∧ step s = .refused (.namesNoOperation w)) ∧
  (∀ (s : State) (i : Instr), s.phase = 7 → i.agent = .seq → exec i s = .refused (.notEnabled i)) ∧
  (∀ (s t : State) (i : Instr), s.phase = 7 → i ≠ .rst → exec i s = .next t → t.phase = 7) ∧
  (∀ s : State, ∃ t, exec .rst s = .next t ∧ t.phase = 0)

/-- R10, R79: the event offered first is the one the step runs, on the state without it; a word that names no operation
is refused, and so is a state in which no event is offered (log entry 2). -/
def Obligations.StepRunsTheOfferedEvent : Prop :=
  ∀ s : State,
    (∀ w rest i, s.events = w :: rest → decode w = .instr i → step s = exec i { s with events := rest }) ∧
    (∀ w rest e, s.events = w :: rest → decode w = .bad e → step s = .refused (.namesNoOperation w)) ∧
    (s.events = [] → step s = .refused .noEvent)

/-- R10, R85: the words of a trace, offered in order, run as the trace: with the same end, or the same refusal. -/
def Obligations.OfferedWordsRunAsATrace : Prop :=
  ∀ (t : Trace) (s : State) (rest : List EventWord), s.events = t.map encode ++ rest →
    Host.Core.run core t.length s = runTrace t { s with events := rest }

/-! ### The fourteen operations -/

/-- R140: `RST` is enabled in every state and gives every register its reset value, the unspecified ones some value that
is not stated; after it only `RST` and `INIT` are enabled, and no other operation clears `GIE`, `RUN`, `ADEN` or
`ADSTARTED`. -/
def Obligations.RstResetsEveryRegister : Prop :=
  Instr.agent .rst = .envHost ∧ decode 0x000 = .instr .rst ∧
  (∀ s : State, ∃ (i : Digit) (p : Byte) (n : BitVec 5) (v : Byte) (k : Nat), exec .rst s = .next { s with
      cur := s.cfg.curReset, pat := s.cfg.patReset, phase := 0, idx := i, pbuf := p, dly := n, cdata := v,
      seg := s.cfg.outReset.seg, dselN := s.cfg.outReset.dselN, aden := false, gie := false, run := false,
      tpend := false, cpend := false, pubmask := 0, prow := 0, adstarted := false, adbusy := false,
      resetCount := k }) ∧
  (∀ s t i, exec .rst s = .next t → i ≠ .rst → i ≠ .init → exec i t = .refused (.notEnabled i)) ∧
  (∀ i s t, exec i s = .next t → i ≠ .rst →
    (s.gie = true → t.gie = true) ∧ (s.run = true → t.run = true) ∧ (s.aden = true → t.aden = true) ∧
    (s.adstarted = true → t.adstarted = true))

/-- R141: `INIT`, enabled when `RUN = 0`, sets `GIE` and `RUN` and changes nothing else; it occurs once per reset: after
it a second `INIT` is refused until the next `RST`, whatever operations come between. -/
def Obligations.InitStartsTheLoop : Prop :=
  Instr.agent .init = .envHost ∧ decode 0x100 = .instr .init ∧
  (∀ s : State, s.run = false → exec .init s = .next { s with gie := true, run := true }) ∧
  (∀ s : State, s.run = true → exec .init s = .refused (.notEnabled .init)) ∧
  (∀ (p : Trace) (s t u : State), exec .init s = .next t → .rst ∉ p → Leads p t u →
    u.run = true ∧ exec .init u = .refused (.notEnabled .init))

/-- R90: `TICKIN`, enabled when `RUN = 1`, sets `TPEND` and changes nothing else; with `TPEND` already set the state
does not change. -/
def Obligations.TickinSetsThePendingLatch : Prop :=
  Instr.agent .tickin = .envTimer ∧ decode 0x200 = .instr .tickin ∧
  (∀ s : State, s.run = true → exec .tickin s = .next { s with tpend := true }) ∧
  (∀ s : State, s.run = true → s.tpend = true → exec .tickin s = .next s) ∧
  (∀ s : State, s.run = false → exec .tickin s = .refused (.notEnabled .tickin))

/-- R91: `TICK` clears `TPEND`, advances `CUR` modulo 4 and changes nothing else; it is refused unless `GIE = 1`,
`TPEND = 1`, `PUBMASK = 0` and, under `conv_first`, `CPEND = 0`. -/
def Obligations.TickAdvancesTheCursor : Prop :=
  Instr.agent .tick = .irq ∧ decode 0x400 = .instr .tick ∧
  (∀ s : State, s.gie = true → s.tpend = true → s.pubmask = 0 →
    (s.cfg.irqPriority = .convFirst → s.cpend = false) →
    exec .tick s = .next { s with tpend := false, cur := BitVec.ofNat 2 ((s.cur.toNat + 1) % 4) }) ∧
  (∀ s : State, ¬(s.gie = true ∧ s.tpend = true ∧ s.pubmask = 0 ∧
      (s.cfg.irqPriority = .convFirst → s.cpend = false)) →
    exec .tick s = .refused (.notEnabled .tick))

/-- R100: `ARM` sets `ADEN`, loads `DLY` with 20, goes to phase 1 and changes nothing else. -/
def Obligations.ArmLoadsTheSettlingDelay : Prop :=
  Instr.agent .arm = .seq ∧ decode 0x800 = .instr .arm ∧
  (∀ s : State, s.run = true → s.phase = 0 →
    exec .arm s = .next { s with aden := true, dly := 20, phase := 1 }) ∧
  (∀ s : State, ¬(s.run = true ∧ s.phase = 0) → exec .arm s = .refused (.notEnabled .arm))

/-- R101: `WAIT` counts `DLY` down by one and goes to phase 2 when it reaches 0, else stays in phase 1; with
`1 <= DLY <= 20` the count is the exact one. At `DLY = 0`, which no reachable state has in phase 1, it still runs; what
`DLY` then holds is not stated here (log entry 6). -/
def Obligations.WaitCountsTheDelayDown : Prop :=
  Instr.agent .wait = .seq ∧ decode 0x900 = .instr .wait ∧
  (∀ s : State, s.run = true → s.phase = 1 → 1 ≤ s.dly →
    exec .wait s = .next { s with
      dly := BitVec.ofNat 5 (s.dly.toNat - 1), phase := if s.dly.toNat - 1 = 0 then 2 else 1 }) ∧
  (∀ s : State, s.run = true → s.phase = 1 →
    ∃ n : BitVec 5, ∃ k : Phase, exec .wait s = .next { s with dly := n, phase := k }) ∧
  (∀ s : State, ¬(s.run = true ∧ s.phase = 1) → exec .wait s = .refused (.notEnabled .wait))

/-- R102: `TRIG` emits one `adc_start` pulse, sets `ADSTARTED` and `ADBUSY`, goes to phase 3 and changes nothing else,
whether or not a conversion is in flight or a result pending. -/
def Obligations.TrigRequestsAConversion : Prop :=
  Instr.agent .trig = .seq ∧ decode 0xA00 = .instr .trig ∧
  (∀ s : State, s.run = true → s.phase = 2 →
    exec .trig s = .next { s with adcStarts := s.adcStarts + 1, adstarted := true, adbusy := true, phase := 3 }) ∧
  (∀ s : State, ¬(s.run = true ∧ s.phase = 2) → exec .trig s = .refused (.notEnabled .trig))

/-- R104: `ADCDONE v` latches `v`, sets `CPEND`, clears `ADBUSY` and changes nothing else; `ADSTARTED` gates it under
`free` and `ADBUSY` under `one_shot`. -/
def Obligations.AdcdoneLatchesTheResult : Prop :=
  (∀ v, Instr.agent (.adcdone v) = .envAdc) ∧ decode 0x34B = .instr (.adcdone 75) ∧
  (∀ (v : Byte) (s : State),
    (s.cfg.adcModel = .free → s.adstarted = true) → (s.cfg.adcModel = .oneShot → s.adbusy = true) →
    exec (.adcdone v) s = .next { s with cdata := v, cpend := true, adbusy := false }) ∧
  (∀ (v : Byte) (s : State), s.cfg.adcModel = .free → s.adstarted = false →
    exec (.adcdone v) s = .refused (.notEnabled (.adcdone v))) ∧
  (∀ (v : Byte) (s : State), s.cfg.adcModel = .oneShot → s.adbusy = false →
    exec (.adcdone v) s = .refused (.notEnabled (.adcdone v)))

/-- R105: `CONV` clears `CPEND` and publishes the row of the newest result's band: all four elements in atomic mode, the
row code and four marks in split mode; nothing else changes. -/
def Obligations.ConvPublishesTheBand : Prop :=
  Instr.agent .conv = .irq ∧ decode 0x500 = .instr .conv ∧
  (∀ s : State, s.gie = true → s.cpend = true → s.pubmask = 0 →
    (s.cfg.irqPriority = .tickFirst → s.tpend = false) → s.cfg.publishMode = .atomic →
    exec .conv s = .next { s with cpend := false, pat := row (bandOf s.cdata) }) ∧
  (∀ s : State, s.gie = true → s.cpend = true → s.pubmask = 0 →
    (s.cfg.irqPriority = .tickFirst → s.tpend = false) → s.cfg.publishMode = .split →
    exec .conv s = .next { s with cpend := false, prow := bandCode (bandOf s.cdata), pubmask := 0b1111 }) ∧
  (∀ s : State, ¬(s.gie = true ∧ s.cpend = true ∧ s.pubmask = 0 ∧
      (s.cfg.irqPriority = .tickFirst → s.tpend = false)) →
    exec .conv s = .refused (.notEnabled .conv))

/-- R111, R78: in split mode `PUBW i` with its mark set writes element `i` from the row being published and clears that
mark, and nothing else changes; without the mark, or in atomic mode, it is refused; with the unused row code 3 it has no
defined effect and stops (R83, U22). -/
def Obligations.PubwWritesOneElement : Prop :=
  (∀ i, Instr.agent (.pubw i) = .irq) ∧ decode 0x602 = .instr (.pubw 2) ∧
  (∀ (i : Digit) (s : State) (b : Band), s.cfg.publishMode = .split → s.pubmask.getLsbD i.toNat = true →
    s.prow = bandCode b →
    exec (.pubw i) s = .next { s with
      pat := patWrite s.pat i (rowRead b i), pubmask := s.pubmask &&& ~~~(1#4 <<< i.toNat) }) ∧
  (∀ (i : Digit) (s : State), s.cfg.publishMode = .split → s.pubmask.getLsbD i.toNat = true → s.prow = 3 →
    exec (.pubw i) s = .refused .bandCodeThree) ∧
  (∀ (i : Digit) (s : State), s.cfg.publishMode = .atomic ∨ s.pubmask.getLsbD i.toNat = false →
    exec (.pubw i) s = .refused (.notEnabled (.pubw i)))

/-- R121: `RDCUR` copies `CUR` to `IDX`, goes to phase 4 and changes nothing else. -/
def Obligations.RdcurReadsTheCursor : Prop :=
  Instr.agent .rdcur = .seq ∧ decode 0xB00 = .instr .rdcur ∧
  (∀ s : State, s.run = true → s.phase = 3 → exec .rdcur s = .next { s with idx := s.cur, phase := 4 }) ∧
  (∀ s : State, ¬(s.run = true ∧ s.phase = 3) → exec .rdcur s = .refused (.notEnabled .rdcur))

/-- R122: `SELPAT` copies the element of `PAT` at `IDX` to `PBUF`, goes to phase 5 and changes nothing else. -/
def Obligations.SelpatSelectsThePattern : Prop :=
  Instr.agent .selpat = .seq ∧ decode 0xC00 = .instr .selpat ∧
  (∀ s : State, s.run = true → s.phase = 4 → ∃ p : Byte,
    (s.idx = 0 → p = s.pat.d0) ∧ (s.idx = 1 → p = s.pat.d1) ∧ (s.idx = 2 → p = s.pat.d2) ∧
    (s.idx = 3 → p = s.pat.d3) ∧ exec .selpat s = .next { s with pbuf := p, phase := 5 }) ∧
  (∀ s : State, ¬(s.run = true ∧ s.phase = 4) → exec .selpat s = .refused (.notEnabled .selpat))

/-- R123: `WRPAT` copies `PBUF` to `SEG`, goes to phase 6 and changes nothing else. -/
def Obligations.WrpatWritesTheSegments : Prop :=
  Instr.agent .wrpat = .seq ∧ decode 0xD00 = .instr .wrpat ∧
  (∀ s : State, s.run = true → s.phase = 5 → exec .wrpat s = .next { s with seg := s.pbuf, phase := 6 }) ∧
  (∀ s : State, ¬(s.run = true ∧ s.phase = 5) → exec .wrpat s = .refused (.notEnabled .wrpat))

/-- R124: `SELDIG` drives the line of the live Cursor, or of `IDX` under that parameter, low and the other three high,
goes back to phase 0 and changes nothing else. -/
def Obligations.SeldigDrivesOneLineLow : Prop :=
  Instr.agent .seldig = .seq ∧ decode 0xE00 = .instr .seldig ∧
  (∀ (s : State) (c : Digit), s.run = true → s.phase = 6 →
    (s.cfg.selSrc = .cur → c = s.cur) → (s.cfg.selSrc = .idx → c = s.idx) →
    ∃ m : Lines, (∀ k : Digit, m.getLsbD k.toNat = decide (k ≠ c)) ∧
      exec .seldig s = .next { s with dselN := m, phase := 0 }) ∧
  (∀ s : State, ¬(s.run = true ∧ s.phase = 6) → exec .seldig s = .refused (.notEnabled .seldig))

/-! ### Constants -/

/-- R107, R108, R109: every reading falls in exactly one band, by its closed range; the ranges hold 51, 50 and 155
readings; three independent checks give the same band. -/
def Obligations.BandsPartitionTheReadings : Prop :=
  (∀ v : Byte, (v.toNat ≤ 50 → bandOf v = .low) ∧ (51 ≤ v.toNat → v.toNat ≤ 100 → bandOf v = .mid) ∧
    (101 ≤ v.toNat → bandOf v = .high) ∧ bandByChecks v = some (bandOf v)) ∧
  ((List.range 256).countP (fun n => bandOf (BitVec.ofNat 8 n) = .low) = 51) ∧
  ((List.range 256).countP (fun n => bandOf (BitVec.ofNat 8 n) = .mid) = 50) ∧
  ((List.range 256).countP (fun n => bandOf (BitVec.ofNat 8 n) = .high) = 155)

/-- R23: the twelve bytes of `ROW`, and the eight values they take. -/
def Obligations.TableHoldsTheTwelveBytes : Prop :=
  (rowRead .low 0 = 0x7C ∧ rowRead .low 1 = 0xF7 ∧ rowRead .low 2 = 0x0E ∧ rowRead .low 3 = 0xF7) ∧
  (rowRead .mid 0 = 0x7C ∧ rowRead .mid 1 = 0x06 ∧ rowRead .mid 2 = 0xF9 ∧ rowRead .mid 3 = 0x54) ∧
  (rowRead .high 0 = 0xF7 ∧ rowRead .high 1 = 0x38 ∧ rowRead .high 2 = 0x78 ∧ rowRead .high 3 = 0xF7) ∧
  (∀ x : Byte, (∃ b i, rowRead b i = x) ↔ x ∈ tableBytes) ∧ tableBytes.length = 8 ∧ tableBytes.Nodup

/-! ### Reset and invariants -/

/-- R41: the value every register has after reset, for every value of the OPEN parameters and whatever the unspecified
registers hold; and the defaults, of all but `CDATA`, which has none. -/
def Obligations.ResetGivesTheTablesValues : Prop :=
  (∀ (cfg : Config) (d : ResetDraw), let s := State.afterReset cfg d
    s.cur = cfg.curReset ∧ s.pat = cfg.patReset ∧ s.phase = 0 ∧ s.seg = cfg.outReset.seg ∧
    s.dselN = cfg.outReset.dselN ∧ s.aden = false ∧ s.gie = false ∧ s.run = false ∧ s.tpend = false ∧
    s.cpend = false ∧ s.pubmask = 0 ∧ s.prow = 0 ∧ s.adstarted = false ∧ s.adbusy = false) ∧
  State.reset.cur = 0 ∧ State.reset.pat = { d0 := 0x00, d1 := 0x00, d2 := 0x00, d3 := 0x00 } ∧
  State.reset.seg = 0x00 ∧ State.reset.dselN = 0b1111 ∧ State.reset.idx = 0 ∧ State.reset.pbuf = 0x00 ∧
  State.reset.dly = 0 ∧ (∃ (cfg : Config) (d : ResetDraw), State.reset = State.afterReset cfg d)

/-- R41, R42: the invariant holds at reset, whatever the parameters and the draw. -/
def Obligations.ResetMeetsTheInvariant : Prop :=
  SafeState State.reset ∧ ∀ (cfg : Config) (d : ResetDraw), SafeState (State.afterReset cfg d)

/-- R42 items (b) to (h): every step from a state that meets the invariant leads to one that meets it. -/
def Obligations.StepKeepsTheInvariant : Prop :=
  ∀ s s' : State, SafeState s → step s = .next s' → SafeState s'

/-- R42 items (a) to (e): what holds in every state reachable from reset, under every configuration. -/
def Obligations.ReachableStatesAreSafe : Prop :=
  ∀ (cfg : Config) (d : ResetDraw) (t : Trace) (s : State), Leads t (State.afterReset cfg d) s →
    s.cur.toNat < 4 ∧ s.phase.toNat ≤ 6 ∧ s.dly.toNat ≤ 20 ∧ (s.phase = 1 → 1 ≤ s.dly.toNat) ∧
    s.run = s.gie ∧ (s.adbusy = true → s.adstarted = true) ∧ (s.adstarted = true → s.aden = true) ∧
    (s.cpend = true → s.adstarted = true)

/-- R106, R42 item (f): in atomic mode `CONV` replaces all four elements by the band's row; after it the set is one whole
row until a reset, and before the first one it is what it was. -/
def Obligations.AtomicSetIsNeverTorn : Prop :=
  (∀ s t : State, s.cfg.publishMode = .atomic → exec .conv s = .next t →
    ∀ i, patRead t.pat i = rowRead (bandOf s.cdata) i) ∧
  (∀ (p : Trace) (s t : State), s.cfg.publishMode = .atomic → .rst ∉ p → Leads p s t →
    (.conv ∈ p → ∃ b, ∀ i, patRead t.pat i = rowRead b i) ∧ (.conv ∉ p → t.pat = s.pat))

/-- R42 item (g): in split mode an element not yet written is what it was, and a written one is its position's byte of
some row. -/
def Obligations.SplitElementsComeFromTheTable : Prop :=
  ∀ (p : Trace) (s t : State), s.cfg.publishMode = .split → .rst ∉ p → Leads p s t →
    ∀ i, (.pubw i ∉ p → patRead t.pat i = patRead s.pat i) ∧
      (.pubw i ∈ p → ∃ b, patRead t.pat i = rowRead b i)

/-- R42 item (h), R128: from the first `SELDIG` on, until a reset, exactly one position is lit. -/
def Obligations.OnePositionStaysLit : Prop :=
  ∀ (p : Trace) (s t : State), .rst ∉ p → .seldig ∈ p → Leads p s t →
    ∃ c, t.dselN = onecold c ∧ litPositions t = [c]

/-- R42 item (i): what is selected after its element was published, and what is written to `SEG` from it, is a byte of
the table. -/
def Obligations.ShownBytesComeFromTheTable : Prop :=
  (∀ (a b : Trace) (s u t : State), .rst ∉ a → .rst ∉ b → Leads a s u →
    WritesElement s.cfg.publishMode u.idx a → .selpat ∉ b → Leads (.selpat :: b) u t → t.pbuf ∈ tableBytes) ∧
  (∀ (a b c : Trace) (s u t : State), .rst ∉ a → .rst ∉ b → .rst ∉ c → Leads a s u →
    WritesElement s.cfg.publishMode u.idx a → .selpat ∉ b → .wrpat ∉ c →
    Leads (.selpat :: b ++ .wrpat :: c) u t → t.seg ∈ tableBytes)

/-! ### The Digit Scheduler and the interrupts -/

/-- R92: after any trace with exactly `n` `TICK` and no `RST`, from `CUR = c0`, `CUR = (c0 + n) mod 4`. -/
def Obligations.CursorCountsTheTicks : Prop :=
  ∀ (p : Trace) (s t : State), .rst ∉ p → Leads p s t →
    t.cur.toNat = (s.cur.toNat + occurrences .tick p) % 4

/-- R93, R94, R202: every `TICKIN` is serviced, lost or pending; under `CADENCE_TICK` none is lost, and with nothing
pending the Cursor then counts the timer's ticks. -/
def Obligations.TicksAreServicedLostOrPending : Prop :=
  (∀ (p : Trace) (s t : State), .rst ∉ p → Leads p s t →
    occurrences .tickin p + s.tpend.toNat = occurrences .tick p + lostTicks p s + t.tpend.toNat) ∧
  (∀ (p : Trace) (s t : State), .rst ∉ p → s.tpend = false → CadenceTick p → Leads p s t →
    lostTicks p s = 0 ∧ (t.tpend = false → t.cur.toNat = (s.cur.toNat + occurrences .tickin p) % 4))

/-- R159: with both sources pending, `open` enables both handlers, `tick_first` only `TICK`, `conv_first` only `CONV`;
in atomic mode the two orders lead to the same state. -/
def Obligations.ArbitrationAndCommutation : Prop :=
  (∀ s : State, s.gie = true → s.pubmask = 0 → s.tpend = true → s.cpend = true →
    (s.cfg.irqPriority = .eitherFirst → enabled .tick s = true ∧ enabled .conv s = true) ∧
    (s.cfg.irqPriority = .tickFirst → enabled .tick s = true ∧ enabled .conv s = false) ∧
    (s.cfg.irqPriority = .convFirst → enabled .tick s = false ∧ enabled .conv s = true)) ∧
  (∀ s : State, s.cfg.publishMode = .atomic → enabled .tick s = true → enabled .conv s = true →
    ∃ t, Leads [.tick, .conv] s t ∧ Leads [.conv, .tick] s t)

/-- R164: while a handler is in progress neither handler starts; the two events stay enabled, on their own conditions,
and set their latches. -/
def Obligations.HandlersNeverNest : Prop :=
  ∀ s : State, s.pubmask ≠ 0 →
    exec .tick s = .refused (.notEnabled .tick) ∧ exec .conv s = .refused (.notEnabled .conv) ∧
    (s.run = true → ∃ t, exec .tickin s = .next t ∧ t.tpend = true ∧ t.pubmask = s.pubmask) ∧
    (s.adstarted = true → s.adbusy = true → ∀ v, ∃ t, exec (.adcdone v) s = .next t ∧ t.cpend = true ∧
      t.cdata = v ∧ t.pubmask = s.pubmask ∧ t.prow = s.prow)

/-- R161: the handlers write none of the sequencer's registers and outputs and no enable; `TICK` writes only `TPEND` and
`CUR`; `CONV` and `PUBW` write only `CPEND`, `PAT`, `PUBMASK`, `PROW`. -/
def Obligations.HandlersLeaveTheSequencerAlone : Prop :=
  (∀ s t : State, exec .tick s = .next t → t = { s with tpend := t.tpend, cur := t.cur }) ∧
  (∀ (i : Instr) (s t : State), (i = .conv ∨ ∃ k, i = .pubw k) → exec i s = .next t →
    t = { s with cpend := t.cpend, pat := t.pat, pubmask := t.pubmask, prow := t.prow })

/-- R66: a pending latch stays set until its handler runs or a reset; in split mode every element still to be written
can be written, whatever the enables and the latches are. -/
def Obligations.PendingLatchesStaySet : Prop :=
  (∀ (i : Instr) (s t : State), exec i s = .next t → i ≠ .rst →
    (i ≠ .tick → s.tpend = true → t.tpend = true) ∧ (i ≠ .conv → s.cpend = true → t.cpend = true)) ∧
  (∀ (s : State) (k : Digit), s.cfg.publishMode = .split → s.prow ≠ 3 → stillToWrite s.pubmask k = true →
    ∃ t, exec (.pubw k) s = .next t ∧ stillToWrite t.pubmask k = false)

/-! ### Who reads and writes what -/

/-- R20, R39: every operation but `RST` writes only the registers the matrix gives it; no operation writes the
parameters or the events, and only `TRIG` emits a pulse; IRQ and SEQ write disjoint registers, and so do `TICK` and the
conversion handler. -/
def Obligations.OnlyTheOwnerWrites : Prop :=
  (∀ (i : Instr) (s t : State), exec i s = .next t →
    (∀ r, r ∉ writes s.cfg.publishMode i → regValue t r = regValue s r) ∧
    t.cfg = s.cfg ∧ t.events = s.events ∧ t.adcStarts = s.adcStarts + (if adcStartPulse i then 1 else 0) ∧
    (i ≠ .rst → t.resetCount = s.resetCount)) ∧
  (∀ (m : PublishMode) (i j : Instr) (r : Reg), i.agent = .irq → j.agent = .seq → r ∈ writes m i → r ∉ writes m j) ∧
  (∀ (m : PublishMode) (i : Instr) (r : Reg), (i = .conv ∨ ∃ k, i = .pubw k) → r ∈ writes m i → r ∉ writes m .tick)

/-- R39, R97, R105, R159: two states under one configuration that agree on the registers an operation reads agree on
whether it is a transition and on everything it writes. The reads are those of R39's matrix and, from the enabling
conditions of R91 and R105, `CPEND` by `TICK` under `conv_first` and `TPEND` by `CONV` under `tick_first` (the model's
reading, log entry 10). For `RST` alone the two states must also have had equally many resets, which names the draw of the
unspecified registers (the model's own field, log entry 3). -/
def Obligations.OperationsReadOnlyTheirRegisters : Prop :=
  ∀ (i : Instr) (s₁ s₂ t₁ : State), s₁.cfg = s₂.cfg → (i = .rst → s₁.resetCount = s₂.resetCount) →
    (∀ r ∈ reads s₁.cfg.irqPriority i, regValue s₁ r = regValue s₂ r) → exec i s₁ = .next t₁ →
    ∃ t₂, exec i s₂ = .next t₂ ∧ ∀ r ∈ writes s₁.cfg.publishMode i, regValue t₁ r = regValue t₂ r

/-! ### The sequencer -/

/-- R74: bit 11 of an operation's word is set exactly for the sequencer's, whose next three bits are the `PHASE` it needs;
so with `RUN = 1`, of the words whose bit 11 is set exactly the one made of that bit, `PHASE` and a zero operand is a
transition. -/
def Obligations.OneSequencerWordIsEnabled : Prop :=
  (∀ i : Instr, (encode i).getLsbD 11 = i.isSeq) ∧
  (∀ (i : Instr) (s t : State), i.isSeq = true → exec i s = .next t → s.phase = (encode i).extractLsb' 8 3) ∧
  (∀ (s : State) (w : EventWord) (rest : List EventWord), s.run = true → s.phase ≠ 7 → w.getLsbD 11 = true →
    ((∃ t, step { s with events := w :: rest } = .next t) ↔ w = (1#1 ++ s.phase ++ 0x00#8 : BitVec (1 + 3 + 8))))

/-- R125, R151: the sequencer is stuck exactly when `RUN = 0` or in the unreachable `PHASE = 7`; otherwise exactly one
of its operations is a transition; and no operation but `RST` clears `RUN`. -/
def Obligations.SequencerIsNeverStuck : Prop :=
  (∀ s : State, Stuck .seq s ↔ s.run = false ∨ s.phase = 7) ∧
  (∀ s : State, s.run = true → s.phase ≠ 7 →
    ∃ i t, i.agent = .seq ∧ exec i s = .next t ∧ ∀ j, j.agent = .seq → (∃ u, exec j s = .next u) → j = i) ∧
  (∀ i s t, exec i s = .next t → i ≠ .rst → s.run = true → t.run = true)

/-- R120: one iteration, undisturbed, from any running state at phase 0: what it does and that it changes nothing else. -/
def Obligations.OneIterationRuns : Prop :=
  ∀ s : State, s.run = true → s.phase = 0 →
    Leads iterationOps s { s with
      aden := true, dly := 0, adcStarts := s.adcStarts + 1, adstarted := true, adbusy := true, idx := s.cur,
      pbuf := patRead s.pat s.cur, seg := patRead s.pat s.cur, dselN := onecold s.cur }

/-- R120, R126: in every trace without a reset that starts at phase 0, the sequencer's transitions, whatever the other
agents do between them, are the fixed iteration over and over, possibly cut short at the end. -/
def Obligations.SequencerFollowsTheFixedLoop : Prop :=
  ∀ (p : Trace) (s t : State), .rst ∉ p → s.phase = 0 → Leads p s t →
    ∃ n, seqOps p <+: (List.replicate n iterationOps).flatten

/-- R203: between two consecutive `adc_start` pulses there are 25 other sequencer transitions, 20 of them `WAIT`; 20
`WAIT` between `ARM` and `TRIG`; 25 other sequencer transitions between two consecutive display points. -/
def Obligations.CountsBetweenPulsesAndDisplayPoints : Prop :=
  (∀ (p : Trace) (s t : State), .rst ∉ p → .trig ∉ p → Leads (.trig :: p ++ [.trig]) s t →
    (seqOps p).length = 25 ∧ occurrences .wait p = 20) ∧
  (∀ (p : Trace) (s t : State), .rst ∉ p → .trig ∉ p → Leads (.arm :: p ++ [.trig]) s t →
    occurrences .wait p = 20) ∧
  (∀ (p : Trace) (s t : State), .rst ∉ p → .seldig ∉ p → Leads (.seldig :: p ++ [.seldig]) s t →
    (seqOps p).length = 25)

/-- R186: from reset, the first conversion result comes after a `TRIG` and after at least 22 sequencer transitions. -/
def Obligations.FirstResultFollowsTheFirstTrigger : Prop :=
  ∀ (cfg : Config) (d : ResetDraw) (p : Trace) (v : Byte) (t : State), .rst ∉ p →
    Leads (p ++ [.adcdone v]) (State.afterReset cfg d) t → .trig ∈ p ∧ 22 ≤ (seqOps p).length

/-! ### What the display shows -/

/-- R127: over one display span with `n` `TICK` in it, `SEG` gets what the element at the Cursor read first held at
`SELPAT`, and the line selected is that of the Cursor at the end; the display point is mismatched, and another line low than
that of the position read first, exactly when `n` is not
a multiple of 4. With `SEL_SRC = IDX` it never is. -/
def Obligations.CursorRaceDecidesTheSelectedLine : Prop :=
  ∀ (a b c : Trace) (s u t : State) (m : Bool), OthersOnly a → OthersOnly b → OthersOnly c →
    Leads (.rdcur :: a) s u → Leads (.selpat :: b ++ .wrpat :: c ++ [.seldig]) u t →
    t.seg = patRead u.pat s.cur ∧ t.idx = s.cur ∧
    (s.cfg.selSrc = .cur → t.dselN = onecold t.cur ∧
      (mismatched m (displaySpan a b c) s = true ↔ occurrences .tick (displaySpan a b c) % 4 ≠ 0) ∧
      (t.dselN ≠ onecold t.idx ↔ occurrences .tick (displaySpan a b c) % 4 ≠ 0)) ∧
    (s.cfg.selSrc = .idx →
      t.dselN = onecold s.cur ∧ t.dselN = onecold t.idx ∧ mismatched m (displaySpan a b c) s = false)

/-- R127: whether the display is mismatched is decided at `SELDIG` and, with the outputs, stays so until the next
iteration's `WRPAT`, whatever other operations come between (a `TICK`, a `RDCUR`); it is over after that `WRPAT`. With
`SEL_SRC = IDX` nothing is ever mismatched. The traces contain no reset (log entry 14). -/
def Obligations.MismatchLastsUntilThePatternWrite : Prop :=
  (∀ (p : Trace) (s t u : State) (m : Bool), exec .seldig s = .next t → .wrpat ∉ p → .rst ∉ p → Leads p t u →
    (mismatched m (.seldig :: p) s = true ↔ s.cfg.selSrc = .cur ∧ s.cur ≠ s.idx) ∧
    u.seg = s.seg ∧ u.dselN = t.dselN) ∧
  (∀ (p : Trace) (s t : State) (m : Bool), Leads (p ++ [.wrpat]) s t → mismatched m (p ++ [.wrpat]) s = false) ∧
  (∀ (p : Trace) (s t : State), s.cfg.selSrc = .idx → Leads p s t → mismatched false p s = false)

/-- R130: a publish after `SELPAT` does not change what the iteration's `WRPAT` writes. -/
def Obligations.StalePatternIsWritten : Prop :=
  ∀ (b : Trace) (s t : State), OthersOnly b → Leads (.selpat :: b ++ [.wrpat]) s t → t.seg = patRead s.pat s.idx

/-- R129: a display span without a `TICK`, while the set is the row of one band throughout, shows that row's byte at the
Cursor's position, under either value of `SEL_SRC`. -/
def Obligations.ShownPairIsTheRowsByte : Prop :=
  ∀ (a b c : Trace) (s t : State) (band : Band), OthersOnly a → OthersOnly b → OthersOnly c →
    .tick ∉ displaySpan a b c → Leads (displaySpan a b c) s t →
    (∀ p q u, displaySpan a b c = p ++ q → Leads p s u → u.pat = row band) →
    shownPair t = some (s.cur, rowRead band s.cur)

/-- R129, R110: the source's end-to-end scenarios for every reading, in atomic mode from a Cursor reset to 0, whatever
the other parameters are: one multiplex frame shows the reading's row, position by position. -/
def Obligations.FrameShowsTheReadingsRow : Prop :=
  ∀ (s : State) (v : Byte), s.cfg.publishMode = .atomic → s.cfg.curReset = 0 →
    displayed (frameProgram v) s =
      [some (0, rowRead (bandOf v) 0), some (1, rowRead (bandOf v) 1), some (2, rowRead (bandOf v) 2),
        some (3, rowRead (bandOf v) 3)]

/-- R202: where a whole display span falls between two `TICK`, the position the Cursor then holds is shown. -/
def Obligations.EveryPositionIsShownUnderCadence : Prop :=
  ∀ (p : Trace) (s t : State), CadenceShow (.tick :: p ++ [.tick]) → .tick ∉ p → .rst ∉ p →
    Leads (.tick :: p ++ [.tick]) s t →
    ∃ q q' u, p = q ++ .seldig :: q' ∧ Leads (.tick :: q ++ [.seldig]) s u ∧ shownPair u = some (s.cur + 1, u.seg)

/-! ### Publishing -/

/-- R110, R113: a completed publish leaves the row of the reading's band, in either mode and, in split mode, in any of the
24 orders; so it depends on nothing but that band. -/
def Obligations.PublishedSetIsTheBandsRow : Prop :=
  (∀ (s : State) (v : Byte) (t : State), s.cfg.publishMode = .atomic →
    Leads (Pseudo.sample v).expand s t → t.pat = row (bandOf v)) ∧
  (∀ (s : State) (v : Byte) (order : List Digit) (t : State), s.cfg.publishMode = .split →
    order.Perm [0, 1, 2, 3] → Leads (Pseudo.sample4 v order).expand s t →
    t.pat = row (bandOf v) ∧ t.pubmask = 0) ∧
  (∀ (s : State) (v : Byte) (order : List Digit), s.cfg.publishMode = .split → order.Perm [0, 1, 2, 3] →
    s.gie = true → s.adstarted = true → s.adbusy = true → s.pubmask = 0 → s.tpend = false →
    ∃ t, Leads (Pseudo.sample4 v order).expand s t)

/-- R111, R61: in split mode, whatever else happens after a `CONV`, once its publish is finished the set is the whole row
of the result it classified. -/
def Obligations.SplitPublishEndsInTheWholeRow : Prop :=
  ∀ (p : Trace) (s t : State), s.cfg.publishMode = .split → .rst ∉ p → .conv ∉ p →
    Leads (.conv :: p) s t → t.pubmask = 0 → t.pat = row (bandOf s.cdata)

/-- R117: when two results arrive with no `CONV` between them, the next `CONV` classifies the second. -/
def Obligations.OverrunClassifiesTheNewestResult : Prop :=
  ∀ (a b : Trace) (v w : Byte) (s t : State), .rst ∉ a → .conv ∉ a → .rst ∉ b → .conv ∉ b →
    (∀ x, .adcdone x ∉ b) → Leads (.adcdone v :: a ++ .adcdone w :: b ++ [.conv]) s t →
    (s.cfg.publishMode = .atomic → t.pat = row (bandOf w)) ∧
    (s.cfg.publishMode = .split → t.prow = bandCode (bandOf w) ∧ t.pubmask = 0b1111)

/-! ### How the parameters compare -/

/-- R104: every trace valid under `one_shot` is valid under `free`, and ends in the same state. -/
def Obligations.OneShotTracesAreFreeTraces : Prop :=
  ∀ (p : Trace) (s t : State), s.cfg.adcModel = .oneShot → (s.adbusy = true → s.adstarted = true) → Leads p s t →
    Leads p (s.withCfg { s.cfg with adcModel := .free }) (t.withCfg { s.cfg with adcModel := .free })

/-- D12, R159: every trace valid under a fixed priority is valid under `open`, and ends in the same state. -/
def Obligations.FixedPriorityTracesAreOpenTraces : Prop :=
  ∀ (p : Trace) (s t : State), Leads p s t →
    Leads p (s.withCfg { s.cfg with irqPriority := .eitherFirst })
      (t.withCfg { s.cfg with irqPriority := .eitherFirst })

/-- R112: every atomic-mode run is, but for `PROW`, a split-mode run that does the four element writes right after each
`CONV`; and split mode reaches a torn set, which atomic mode does not. -/
def Obligations.AtomicRunsAreSplitRuns : Prop :=
  (∀ (p : Trace) (s t : State), s.cfg.publishMode = .atomic → s.pubmask = 0 → Leads p s t →
    ∃ r, Leads (withElementWrites p) (s.withCfg { s.cfg with publishMode := .split })
      { t.withCfg { s.cfg with publishMode := .split } with prow := r }) ∧
  (∃ (cfg : Config) (p : Trace) (t : State), cfg.publishMode = .split ∧
    Leads p (State.afterReset cfg ResetDraw.zero) t ∧ t.pat ≠ cfg.patReset ∧ ¬ WholeRow t) ∧
  (∀ (cfg : Config) (d : ResetDraw) (p : Trace) (t : State), cfg.publishMode = .atomic →
    Leads p (State.afterReset cfg d) t → t.pat = cfg.patReset ∨ WholeRow t)

/-- R134, R202: without a `TICK` between a `RDCUR` and the `SELDIG` of its iteration the two values of `SEL_SRC` give the
same run. -/
def Obligations.SelectSourcesAgreeWithoutTicks : Prop :=
  ∀ (p : Trace) (s t : State), s.phase = 0 → NoTickInShow p → s.cfg.selSrc = .cur → Leads p s t →
    Leads p (s.withCfg { s.cfg with selSrc := .idx }) (t.withCfg { s.cfg with selSrc := .idx })

/-! ### Liveness under the named premises -/

/-- R175, R201: under `IRQ_FAIR`, in atomic mode, with neither source held back and no reset, a pending tick is serviced
eventually. -/
def Obligations.PendingTickIsServiced : Prop :=
  ∀ (r : Run) (n : Nat), r.IrqFair → (∀ m, r.ops m ≠ .rst) → (r.states n).cfg.publishMode = .atomic →
    (r.states n).cfg.irqPriority ≠ .convFirst → SafeState (r.states n) → (r.states n).tpend = true →
    ∃ m, n ≤ m ∧ r.ops m = .tick

/-- R125, R201: under `SEQ_FAIR` and without a reset, a running sequencer reaches display points again and again. -/
def Obligations.DisplayPointsRecur : Prop :=
  ∀ (r : Run) (n : Nat), r.SeqFair → (∀ m, r.ops m ≠ .rst) → (r.states n).run = true → SafeState (r.states n) →
    ∃ m, n ≤ m ∧ r.ops m = .seldig
end

