-- ==== Sys2Proof/Laws/Decode.lean ====
section
/-! SUPPORT. The fields of an event word: a word is its opcode and its operand, and each field of an assembled word
reads back. -/

namespace Sys2Proof

/-- An event word is its opcode and its operand (R71). -/
theorem assemble_fields (w : EventWord) : assemble (opField w) (argField w) = w := by
  unfold assemble opField argField
  apply BitVec.eq_of_getLsbD_eq
  intro i hi
  rw [BitVec.getLsbD_append]
  by_cases h : i < 8
  · simp [h]
  · have e : 8 + (i - 8) = i := by omega
    simp [h, BitVec.getLsbD_extractLsb', e]; omega

theorem opField_assemble (op : BitVec 4) (arg : Byte) : opField (assemble op arg) = op := by
  unfold assemble opField
  apply BitVec.eq_of_getLsbD_eq
  intro i hi
  rw [BitVec.getLsbD_extractLsb', BitVec.getLsbD_append]
  simp [hi]

theorem argField_assemble (op : BitVec 4) (arg : Byte) : argField (assemble op arg) = arg := by
  unfold assemble argField
  apply BitVec.eq_of_getLsbD_eq
  intro i hi
  rw [BitVec.getLsbD_extractLsb', BitVec.getLsbD_append]
  simp [hi]

/-- A word that decodes came from a row it matches, and is what that row builds (R73). -/
theorem decode_instr {w : EventWord} {i : Instr} (h : decode w = .instr i) :
    ∃ r ∈ opcodeRows, r.hits w = true ∧ r.build w = i := by
  unfold decode at h
  split at h
  · rename_i r hr
    exact ⟨r, List.mem_of_find?_eq_some hr, List.find?_some (p := fun r : OpRow => r.hits w) hr, by simpa using h⟩
  · cases h

/-- A word no row matches does not decode (R76, R77). -/
theorem decode_bad {w : EventWord} (h : ∀ r ∈ opcodeRows, r.hits w = false) :
    decode w = .bad (if opReserved w then .reservedOpcode else .reservedOperand) := by
  have e : opcodeRows.find? (fun r => r.hits w) = none := by
    rw [List.find?_eq_none]; intro r hr; simp [h r hr]
  simp [decode, e]

end Sys2Proof
end

