-- ==== Sys2Proof/Laws/State.lean ====
section
/-! SUPPORT. Each named update of the state, read at each field: true by definition, so that no later proof unfolds a
record update. -/

namespace Sys2Proof.Machine

/-! ### `startLoop` -/

@[simp] theorem startLoop_cur (s : State) : (startLoop s).cur = s.cur := rfl
@[simp] theorem startLoop_pat (s : State) : (startLoop s).pat = s.pat := rfl
@[simp] theorem startLoop_phase (s : State) : (startLoop s).phase = s.phase := rfl
@[simp] theorem startLoop_idx (s : State) : (startLoop s).idx = s.idx := rfl
@[simp] theorem startLoop_pbuf (s : State) : (startLoop s).pbuf = s.pbuf := rfl
@[simp] theorem startLoop_dly (s : State) : (startLoop s).dly = s.dly := rfl
@[simp] theorem startLoop_seg (s : State) : (startLoop s).seg = s.seg := rfl
@[simp] theorem startLoop_dselN (s : State) : (startLoop s).dselN = s.dselN := rfl
@[simp] theorem startLoop_aden (s : State) : (startLoop s).aden = s.aden := rfl
@[simp] theorem startLoop_gie (s : State) : (startLoop s).gie = true := rfl
@[simp] theorem startLoop_run (s : State) : (startLoop s).run = true := rfl
@[simp] theorem startLoop_tpend (s : State) : (startLoop s).tpend = s.tpend := rfl
@[simp] theorem startLoop_cpend (s : State) : (startLoop s).cpend = s.cpend := rfl
@[simp] theorem startLoop_cdata (s : State) : (startLoop s).cdata = s.cdata := rfl
@[simp] theorem startLoop_pubmask (s : State) : (startLoop s).pubmask = s.pubmask := rfl
@[simp] theorem startLoop_prow (s : State) : (startLoop s).prow = s.prow := rfl
@[simp] theorem startLoop_adstarted (s : State) : (startLoop s).adstarted = s.adstarted := rfl
@[simp] theorem startLoop_adbusy (s : State) : (startLoop s).adbusy = s.adbusy := rfl
@[simp] theorem startLoop_cfg (s : State) : (startLoop s).cfg = s.cfg := rfl
@[simp] theorem startLoop_adcStarts (s : State) : (startLoop s).adcStarts = s.adcStarts := rfl
@[simp] theorem startLoop_resetCount (s : State) : (startLoop s).resetCount = s.resetCount := rfl
@[simp] theorem startLoop_events (s : State) : (startLoop s).events = s.events := rfl

/-! ### `advanceCursor` -/

@[simp] theorem advanceCursor_cur (s : State) : (advanceCursor s).cur = s.cur + 1#2 := rfl
@[simp] theorem advanceCursor_pat (s : State) : (advanceCursor s).pat = s.pat := rfl
@[simp] theorem advanceCursor_phase (s : State) : (advanceCursor s).phase = s.phase := rfl
@[simp] theorem advanceCursor_idx (s : State) : (advanceCursor s).idx = s.idx := rfl
@[simp] theorem advanceCursor_pbuf (s : State) : (advanceCursor s).pbuf = s.pbuf := rfl
@[simp] theorem advanceCursor_dly (s : State) : (advanceCursor s).dly = s.dly := rfl
@[simp] theorem advanceCursor_seg (s : State) : (advanceCursor s).seg = s.seg := rfl
@[simp] theorem advanceCursor_dselN (s : State) : (advanceCursor s).dselN = s.dselN := rfl
@[simp] theorem advanceCursor_aden (s : State) : (advanceCursor s).aden = s.aden := rfl
@[simp] theorem advanceCursor_gie (s : State) : (advanceCursor s).gie = s.gie := rfl
@[simp] theorem advanceCursor_run (s : State) : (advanceCursor s).run = s.run := rfl
@[simp] theorem advanceCursor_tpend (s : State) : (advanceCursor s).tpend = s.tpend := rfl
@[simp] theorem advanceCursor_cpend (s : State) : (advanceCursor s).cpend = s.cpend := rfl
@[simp] theorem advanceCursor_cdata (s : State) : (advanceCursor s).cdata = s.cdata := rfl
@[simp] theorem advanceCursor_pubmask (s : State) : (advanceCursor s).pubmask = s.pubmask := rfl
@[simp] theorem advanceCursor_prow (s : State) : (advanceCursor s).prow = s.prow := rfl
@[simp] theorem advanceCursor_adstarted (s : State) : (advanceCursor s).adstarted = s.adstarted := rfl
@[simp] theorem advanceCursor_adbusy (s : State) : (advanceCursor s).adbusy = s.adbusy := rfl
@[simp] theorem advanceCursor_cfg (s : State) : (advanceCursor s).cfg = s.cfg := rfl
@[simp] theorem advanceCursor_adcStarts (s : State) : (advanceCursor s).adcStarts = s.adcStarts := rfl
@[simp] theorem advanceCursor_resetCount (s : State) : (advanceCursor s).resetCount = s.resetCount := rfl
@[simp] theorem advanceCursor_events (s : State) : (advanceCursor s).events = s.events := rfl

/-! ### `armConverter` -/

@[simp] theorem armConverter_cur (s : State) : (armConverter s).cur = s.cur := rfl
@[simp] theorem armConverter_pat (s : State) : (armConverter s).pat = s.pat := rfl
@[simp] theorem armConverter_phase (s : State) : (armConverter s).phase = 1#3 := rfl
@[simp] theorem armConverter_idx (s : State) : (armConverter s).idx = s.idx := rfl
@[simp] theorem armConverter_pbuf (s : State) : (armConverter s).pbuf = s.pbuf := rfl
@[simp] theorem armConverter_dly (s : State) : (armConverter s).dly = settle := rfl
@[simp] theorem armConverter_seg (s : State) : (armConverter s).seg = s.seg := rfl
@[simp] theorem armConverter_dselN (s : State) : (armConverter s).dselN = s.dselN := rfl
@[simp] theorem armConverter_aden (s : State) : (armConverter s).aden = true := rfl
@[simp] theorem armConverter_gie (s : State) : (armConverter s).gie = s.gie := rfl
@[simp] theorem armConverter_run (s : State) : (armConverter s).run = s.run := rfl
@[simp] theorem armConverter_tpend (s : State) : (armConverter s).tpend = s.tpend := rfl
@[simp] theorem armConverter_cpend (s : State) : (armConverter s).cpend = s.cpend := rfl
@[simp] theorem armConverter_cdata (s : State) : (armConverter s).cdata = s.cdata := rfl
@[simp] theorem armConverter_pubmask (s : State) : (armConverter s).pubmask = s.pubmask := rfl
@[simp] theorem armConverter_prow (s : State) : (armConverter s).prow = s.prow := rfl
@[simp] theorem armConverter_adstarted (s : State) : (armConverter s).adstarted = s.adstarted := rfl
@[simp] theorem armConverter_adbusy (s : State) : (armConverter s).adbusy = s.adbusy := rfl
@[simp] theorem armConverter_cfg (s : State) : (armConverter s).cfg = s.cfg := rfl
@[simp] theorem armConverter_adcStarts (s : State) : (armConverter s).adcStarts = s.adcStarts := rfl
@[simp] theorem armConverter_resetCount (s : State) : (armConverter s).resetCount = s.resetCount := rfl
@[simp] theorem armConverter_events (s : State) : (armConverter s).events = s.events := rfl

/-! ### `waitUnit` -/

@[simp] theorem waitUnit_cur (s : State) : (waitUnit s).cur = s.cur := rfl
@[simp] theorem waitUnit_pat (s : State) : (waitUnit s).pat = s.pat := rfl
@[simp] theorem waitUnit_phase (s : State) : (waitUnit s).phase = if s.dly - 1#5 = 0#5 then 2#3 else 1#3 := rfl
@[simp] theorem waitUnit_idx (s : State) : (waitUnit s).idx = s.idx := rfl
@[simp] theorem waitUnit_pbuf (s : State) : (waitUnit s).pbuf = s.pbuf := rfl
@[simp] theorem waitUnit_dly (s : State) : (waitUnit s).dly = s.dly - 1#5 := rfl
@[simp] theorem waitUnit_seg (s : State) : (waitUnit s).seg = s.seg := rfl
@[simp] theorem waitUnit_dselN (s : State) : (waitUnit s).dselN = s.dselN := rfl
@[simp] theorem waitUnit_aden (s : State) : (waitUnit s).aden = s.aden := rfl
@[simp] theorem waitUnit_gie (s : State) : (waitUnit s).gie = s.gie := rfl
@[simp] theorem waitUnit_run (s : State) : (waitUnit s).run = s.run := rfl
@[simp] theorem waitUnit_tpend (s : State) : (waitUnit s).tpend = s.tpend := rfl
@[simp] theorem waitUnit_cpend (s : State) : (waitUnit s).cpend = s.cpend := rfl
@[simp] theorem waitUnit_cdata (s : State) : (waitUnit s).cdata = s.cdata := rfl
@[simp] theorem waitUnit_pubmask (s : State) : (waitUnit s).pubmask = s.pubmask := rfl
@[simp] theorem waitUnit_prow (s : State) : (waitUnit s).prow = s.prow := rfl
@[simp] theorem waitUnit_adstarted (s : State) : (waitUnit s).adstarted = s.adstarted := rfl
@[simp] theorem waitUnit_adbusy (s : State) : (waitUnit s).adbusy = s.adbusy := rfl
@[simp] theorem waitUnit_cfg (s : State) : (waitUnit s).cfg = s.cfg := rfl
@[simp] theorem waitUnit_adcStarts (s : State) : (waitUnit s).adcStarts = s.adcStarts := rfl
@[simp] theorem waitUnit_resetCount (s : State) : (waitUnit s).resetCount = s.resetCount := rfl
@[simp] theorem waitUnit_events (s : State) : (waitUnit s).events = s.events := rfl

/-! ### `requestConversion` -/

@[simp] theorem requestConversion_cur (s : State) : (requestConversion s).cur = s.cur := rfl
@[simp] theorem requestConversion_pat (s : State) : (requestConversion s).pat = s.pat := rfl
@[simp] theorem requestConversion_phase (s : State) : (requestConversion s).phase = 3#3 := rfl
@[simp] theorem requestConversion_idx (s : State) : (requestConversion s).idx = s.idx := rfl
@[simp] theorem requestConversion_pbuf (s : State) : (requestConversion s).pbuf = s.pbuf := rfl
@[simp] theorem requestConversion_dly (s : State) : (requestConversion s).dly = s.dly := rfl
@[simp] theorem requestConversion_seg (s : State) : (requestConversion s).seg = s.seg := rfl
@[simp] theorem requestConversion_dselN (s : State) : (requestConversion s).dselN = s.dselN := rfl
@[simp] theorem requestConversion_aden (s : State) : (requestConversion s).aden = s.aden := rfl
@[simp] theorem requestConversion_gie (s : State) : (requestConversion s).gie = s.gie := rfl
@[simp] theorem requestConversion_run (s : State) : (requestConversion s).run = s.run := rfl
@[simp] theorem requestConversion_tpend (s : State) : (requestConversion s).tpend = s.tpend := rfl
@[simp] theorem requestConversion_cpend (s : State) : (requestConversion s).cpend = s.cpend := rfl
@[simp] theorem requestConversion_cdata (s : State) : (requestConversion s).cdata = s.cdata := rfl
@[simp] theorem requestConversion_pubmask (s : State) : (requestConversion s).pubmask = s.pubmask := rfl
@[simp] theorem requestConversion_prow (s : State) : (requestConversion s).prow = s.prow := rfl
@[simp] theorem requestConversion_adstarted (s : State) : (requestConversion s).adstarted = true := rfl
@[simp] theorem requestConversion_adbusy (s : State) : (requestConversion s).adbusy = true := rfl
@[simp] theorem requestConversion_cfg (s : State) : (requestConversion s).cfg = s.cfg := rfl
@[simp] theorem requestConversion_adcStarts (s : State) : (requestConversion s).adcStarts = s.adcStarts + 1 := rfl
@[simp] theorem requestConversion_resetCount (s : State) : (requestConversion s).resetCount = s.resetCount := rfl
@[simp] theorem requestConversion_events (s : State) : (requestConversion s).events = s.events := rfl

/-! ### `latchResult` -/

@[simp] theorem latchResult_cur (v : Byte) (s : State) : (latchResult v s).cur = s.cur := rfl
@[simp] theorem latchResult_pat (v : Byte) (s : State) : (latchResult v s).pat = s.pat := rfl
@[simp] theorem latchResult_phase (v : Byte) (s : State) : (latchResult v s).phase = s.phase := rfl
@[simp] theorem latchResult_idx (v : Byte) (s : State) : (latchResult v s).idx = s.idx := rfl
@[simp] theorem latchResult_pbuf (v : Byte) (s : State) : (latchResult v s).pbuf = s.pbuf := rfl
@[simp] theorem latchResult_dly (v : Byte) (s : State) : (latchResult v s).dly = s.dly := rfl
@[simp] theorem latchResult_seg (v : Byte) (s : State) : (latchResult v s).seg = s.seg := rfl
@[simp] theorem latchResult_dselN (v : Byte) (s : State) : (latchResult v s).dselN = s.dselN := rfl
@[simp] theorem latchResult_aden (v : Byte) (s : State) : (latchResult v s).aden = s.aden := rfl
@[simp] theorem latchResult_gie (v : Byte) (s : State) : (latchResult v s).gie = s.gie := rfl
@[simp] theorem latchResult_run (v : Byte) (s : State) : (latchResult v s).run = s.run := rfl
@[simp] theorem latchResult_tpend (v : Byte) (s : State) : (latchResult v s).tpend = s.tpend := rfl
@[simp] theorem latchResult_cpend (v : Byte) (s : State) : (latchResult v s).cpend = s.cpend := rfl
@[simp] theorem latchResult_cdata (v : Byte) (s : State) : (latchResult v s).cdata = v := rfl
@[simp] theorem latchResult_pubmask (v : Byte) (s : State) : (latchResult v s).pubmask = s.pubmask := rfl
@[simp] theorem latchResult_prow (v : Byte) (s : State) : (latchResult v s).prow = s.prow := rfl
@[simp] theorem latchResult_adstarted (v : Byte) (s : State) : (latchResult v s).adstarted = s.adstarted := rfl
@[simp] theorem latchResult_adbusy (v : Byte) (s : State) : (latchResult v s).adbusy = false := rfl
@[simp] theorem latchResult_cfg (v : Byte) (s : State) : (latchResult v s).cfg = s.cfg := rfl
@[simp] theorem latchResult_adcStarts (v : Byte) (s : State) : (latchResult v s).adcStarts = s.adcStarts := rfl
@[simp] theorem latchResult_resetCount (v : Byte) (s : State) : (latchResult v s).resetCount = s.resetCount := rfl
@[simp] theorem latchResult_events (v : Byte) (s : State) : (latchResult v s).events = s.events := rfl

/-! ### `latchRow` -/

@[simp] theorem latchRow_cur (b : Band) (s : State) : (latchRow b s).cur = s.cur := rfl
@[simp] theorem latchRow_pat (b : Band) (s : State) : (latchRow b s).pat = row b := rfl
@[simp] theorem latchRow_phase (b : Band) (s : State) : (latchRow b s).phase = s.phase := rfl
@[simp] theorem latchRow_idx (b : Band) (s : State) : (latchRow b s).idx = s.idx := rfl
@[simp] theorem latchRow_pbuf (b : Band) (s : State) : (latchRow b s).pbuf = s.pbuf := rfl
@[simp] theorem latchRow_dly (b : Band) (s : State) : (latchRow b s).dly = s.dly := rfl
@[simp] theorem latchRow_seg (b : Band) (s : State) : (latchRow b s).seg = s.seg := rfl
@[simp] theorem latchRow_dselN (b : Band) (s : State) : (latchRow b s).dselN = s.dselN := rfl
@[simp] theorem latchRow_aden (b : Band) (s : State) : (latchRow b s).aden = s.aden := rfl
@[simp] theorem latchRow_gie (b : Band) (s : State) : (latchRow b s).gie = s.gie := rfl
@[simp] theorem latchRow_run (b : Band) (s : State) : (latchRow b s).run = s.run := rfl
@[simp] theorem latchRow_tpend (b : Band) (s : State) : (latchRow b s).tpend = s.tpend := rfl
@[simp] theorem latchRow_cpend (b : Band) (s : State) : (latchRow b s).cpend = s.cpend := rfl
@[simp] theorem latchRow_cdata (b : Band) (s : State) : (latchRow b s).cdata = s.cdata := rfl
@[simp] theorem latchRow_pubmask (b : Band) (s : State) : (latchRow b s).pubmask = s.pubmask := rfl
@[simp] theorem latchRow_prow (b : Band) (s : State) : (latchRow b s).prow = s.prow := rfl
@[simp] theorem latchRow_adstarted (b : Band) (s : State) : (latchRow b s).adstarted = s.adstarted := rfl
@[simp] theorem latchRow_adbusy (b : Band) (s : State) : (latchRow b s).adbusy = s.adbusy := rfl
@[simp] theorem latchRow_cfg (b : Band) (s : State) : (latchRow b s).cfg = s.cfg := rfl
@[simp] theorem latchRow_adcStarts (b : Band) (s : State) : (latchRow b s).adcStarts = s.adcStarts := rfl
@[simp] theorem latchRow_resetCount (b : Band) (s : State) : (latchRow b s).resetCount = s.resetCount := rfl
@[simp] theorem latchRow_events (b : Band) (s : State) : (latchRow b s).events = s.events := rfl

/-! ### `beginPublish` -/

@[simp] theorem beginPublish_cur (b : Band) (s : State) : (beginPublish b s).cur = s.cur := rfl
@[simp] theorem beginPublish_pat (b : Band) (s : State) : (beginPublish b s).pat = s.pat := rfl
@[simp] theorem beginPublish_phase (b : Band) (s : State) : (beginPublish b s).phase = s.phase := rfl
@[simp] theorem beginPublish_idx (b : Band) (s : State) : (beginPublish b s).idx = s.idx := rfl
@[simp] theorem beginPublish_pbuf (b : Band) (s : State) : (beginPublish b s).pbuf = s.pbuf := rfl
@[simp] theorem beginPublish_dly (b : Band) (s : State) : (beginPublish b s).dly = s.dly := rfl
@[simp] theorem beginPublish_seg (b : Band) (s : State) : (beginPublish b s).seg = s.seg := rfl
@[simp] theorem beginPublish_dselN (b : Band) (s : State) : (beginPublish b s).dselN = s.dselN := rfl
@[simp] theorem beginPublish_aden (b : Band) (s : State) : (beginPublish b s).aden = s.aden := rfl
@[simp] theorem beginPublish_gie (b : Band) (s : State) : (beginPublish b s).gie = s.gie := rfl
@[simp] theorem beginPublish_run (b : Band) (s : State) : (beginPublish b s).run = s.run := rfl
@[simp] theorem beginPublish_tpend (b : Band) (s : State) : (beginPublish b s).tpend = s.tpend := rfl
@[simp] theorem beginPublish_cpend (b : Band) (s : State) : (beginPublish b s).cpend = s.cpend := rfl
@[simp] theorem beginPublish_cdata (b : Band) (s : State) : (beginPublish b s).cdata = s.cdata := rfl
@[simp] theorem beginPublish_pubmask (b : Band) (s : State) : (beginPublish b s).pubmask = 15#4 := rfl
@[simp] theorem beginPublish_prow (b : Band) (s : State) : (beginPublish b s).prow = bandCode b := rfl
@[simp] theorem beginPublish_adstarted (b : Band) (s : State) : (beginPublish b s).adstarted = s.adstarted := rfl
@[simp] theorem beginPublish_adbusy (b : Band) (s : State) : (beginPublish b s).adbusy = s.adbusy := rfl
@[simp] theorem beginPublish_cfg (b : Band) (s : State) : (beginPublish b s).cfg = s.cfg := rfl
@[simp] theorem beginPublish_adcStarts (b : Band) (s : State) : (beginPublish b s).adcStarts = s.adcStarts := rfl
@[simp] theorem beginPublish_resetCount (b : Band) (s : State) : (beginPublish b s).resetCount = s.resetCount := rfl
@[simp] theorem beginPublish_events (b : Band) (s : State) : (beginPublish b s).events = s.events := rfl

/-! ### `writeElement` -/

@[simp] theorem writeElement_cur (b : Band) (i : Digit) (s : State) : (writeElement b i s).cur = s.cur := rfl
@[simp] theorem writeElement_pat (b : Band) (i : Digit) (s : State) : (writeElement b i s).pat = patWrite s.pat i (rowRead b i) := rfl
@[simp] theorem writeElement_phase (b : Band) (i : Digit) (s : State) : (writeElement b i s).phase = s.phase := rfl
@[simp] theorem writeElement_idx (b : Band) (i : Digit) (s : State) : (writeElement b i s).idx = s.idx := rfl
@[simp] theorem writeElement_pbuf (b : Band) (i : Digit) (s : State) : (writeElement b i s).pbuf = s.pbuf := rfl
@[simp] theorem writeElement_dly (b : Band) (i : Digit) (s : State) : (writeElement b i s).dly = s.dly := rfl
@[simp] theorem writeElement_seg (b : Band) (i : Digit) (s : State) : (writeElement b i s).seg = s.seg := rfl
@[simp] theorem writeElement_dselN (b : Band) (i : Digit) (s : State) : (writeElement b i s).dselN = s.dselN := rfl
@[simp] theorem writeElement_aden (b : Band) (i : Digit) (s : State) : (writeElement b i s).aden = s.aden := rfl
@[simp] theorem writeElement_gie (b : Band) (i : Digit) (s : State) : (writeElement b i s).gie = s.gie := rfl
@[simp] theorem writeElement_run (b : Band) (i : Digit) (s : State) : (writeElement b i s).run = s.run := rfl
@[simp] theorem writeElement_tpend (b : Band) (i : Digit) (s : State) : (writeElement b i s).tpend = s.tpend := rfl
@[simp] theorem writeElement_cpend (b : Band) (i : Digit) (s : State) : (writeElement b i s).cpend = s.cpend := rfl
@[simp] theorem writeElement_cdata (b : Band) (i : Digit) (s : State) : (writeElement b i s).cdata = s.cdata := rfl
@[simp] theorem writeElement_pubmask (b : Band) (i : Digit) (s : State) : (writeElement b i s).pubmask = clearMark s.pubmask i := rfl
@[simp] theorem writeElement_prow (b : Band) (i : Digit) (s : State) : (writeElement b i s).prow = s.prow := rfl
@[simp] theorem writeElement_adstarted (b : Band) (i : Digit) (s : State) : (writeElement b i s).adstarted = s.adstarted := rfl
@[simp] theorem writeElement_adbusy (b : Band) (i : Digit) (s : State) : (writeElement b i s).adbusy = s.adbusy := rfl
@[simp] theorem writeElement_cfg (b : Band) (i : Digit) (s : State) : (writeElement b i s).cfg = s.cfg := rfl
@[simp] theorem writeElement_adcStarts (b : Band) (i : Digit) (s : State) : (writeElement b i s).adcStarts = s.adcStarts := rfl
@[simp] theorem writeElement_resetCount (b : Band) (i : Digit) (s : State) : (writeElement b i s).resetCount = s.resetCount := rfl
@[simp] theorem writeElement_events (b : Band) (i : Digit) (s : State) : (writeElement b i s).events = s.events := rfl

/-! ### `readCursor` -/

@[simp] theorem readCursor_cur (s : State) : (readCursor s).cur = s.cur := rfl
@[simp] theorem readCursor_pat (s : State) : (readCursor s).pat = s.pat := rfl
@[simp] theorem readCursor_phase (s : State) : (readCursor s).phase = 4#3 := rfl
@[simp] theorem readCursor_idx (s : State) : (readCursor s).idx = s.cur := rfl
@[simp] theorem readCursor_pbuf (s : State) : (readCursor s).pbuf = s.pbuf := rfl
@[simp] theorem readCursor_dly (s : State) : (readCursor s).dly = s.dly := rfl
@[simp] theorem readCursor_seg (s : State) : (readCursor s).seg = s.seg := rfl
@[simp] theorem readCursor_dselN (s : State) : (readCursor s).dselN = s.dselN := rfl
@[simp] theorem readCursor_aden (s : State) : (readCursor s).aden = s.aden := rfl
@[simp] theorem readCursor_gie (s : State) : (readCursor s).gie = s.gie := rfl
@[simp] theorem readCursor_run (s : State) : (readCursor s).run = s.run := rfl
@[simp] theorem readCursor_tpend (s : State) : (readCursor s).tpend = s.tpend := rfl
@[simp] theorem readCursor_cpend (s : State) : (readCursor s).cpend = s.cpend := rfl
@[simp] theorem readCursor_cdata (s : State) : (readCursor s).cdata = s.cdata := rfl
@[simp] theorem readCursor_pubmask (s : State) : (readCursor s).pubmask = s.pubmask := rfl
@[simp] theorem readCursor_prow (s : State) : (readCursor s).prow = s.prow := rfl
@[simp] theorem readCursor_adstarted (s : State) : (readCursor s).adstarted = s.adstarted := rfl
@[simp] theorem readCursor_adbusy (s : State) : (readCursor s).adbusy = s.adbusy := rfl
@[simp] theorem readCursor_cfg (s : State) : (readCursor s).cfg = s.cfg := rfl
@[simp] theorem readCursor_adcStarts (s : State) : (readCursor s).adcStarts = s.adcStarts := rfl
@[simp] theorem readCursor_resetCount (s : State) : (readCursor s).resetCount = s.resetCount := rfl
@[simp] theorem readCursor_events (s : State) : (readCursor s).events = s.events := rfl

/-! ### `selectPattern` -/

@[simp] theorem selectPattern_cur (s : State) : (selectPattern s).cur = s.cur := rfl
@[simp] theorem selectPattern_pat (s : State) : (selectPattern s).pat = s.pat := rfl
@[simp] theorem selectPattern_phase (s : State) : (selectPattern s).phase = 5#3 := rfl
@[simp] theorem selectPattern_idx (s : State) : (selectPattern s).idx = s.idx := rfl
@[simp] theorem selectPattern_pbuf (s : State) : (selectPattern s).pbuf = patRead s.pat s.idx := rfl
@[simp] theorem selectPattern_dly (s : State) : (selectPattern s).dly = s.dly := rfl
@[simp] theorem selectPattern_seg (s : State) : (selectPattern s).seg = s.seg := rfl
@[simp] theorem selectPattern_dselN (s : State) : (selectPattern s).dselN = s.dselN := rfl
@[simp] theorem selectPattern_aden (s : State) : (selectPattern s).aden = s.aden := rfl
@[simp] theorem selectPattern_gie (s : State) : (selectPattern s).gie = s.gie := rfl
@[simp] theorem selectPattern_run (s : State) : (selectPattern s).run = s.run := rfl
@[simp] theorem selectPattern_tpend (s : State) : (selectPattern s).tpend = s.tpend := rfl
@[simp] theorem selectPattern_cpend (s : State) : (selectPattern s).cpend = s.cpend := rfl
@[simp] theorem selectPattern_cdata (s : State) : (selectPattern s).cdata = s.cdata := rfl
@[simp] theorem selectPattern_pubmask (s : State) : (selectPattern s).pubmask = s.pubmask := rfl
@[simp] theorem selectPattern_prow (s : State) : (selectPattern s).prow = s.prow := rfl
@[simp] theorem selectPattern_adstarted (s : State) : (selectPattern s).adstarted = s.adstarted := rfl
@[simp] theorem selectPattern_adbusy (s : State) : (selectPattern s).adbusy = s.adbusy := rfl
@[simp] theorem selectPattern_cfg (s : State) : (selectPattern s).cfg = s.cfg := rfl
@[simp] theorem selectPattern_adcStarts (s : State) : (selectPattern s).adcStarts = s.adcStarts := rfl
@[simp] theorem selectPattern_resetCount (s : State) : (selectPattern s).resetCount = s.resetCount := rfl
@[simp] theorem selectPattern_events (s : State) : (selectPattern s).events = s.events := rfl

/-! ### `writeSegments` -/

@[simp] theorem writeSegments_cur (s : State) : (writeSegments s).cur = s.cur := rfl
@[simp] theorem writeSegments_pat (s : State) : (writeSegments s).pat = s.pat := rfl
@[simp] theorem writeSegments_phase (s : State) : (writeSegments s).phase = 6#3 := rfl
@[simp] theorem writeSegments_idx (s : State) : (writeSegments s).idx = s.idx := rfl
@[simp] theorem writeSegments_pbuf (s : State) : (writeSegments s).pbuf = s.pbuf := rfl
@[simp] theorem writeSegments_dly (s : State) : (writeSegments s).dly = s.dly := rfl
@[simp] theorem writeSegments_seg (s : State) : (writeSegments s).seg = s.pbuf := rfl
@[simp] theorem writeSegments_dselN (s : State) : (writeSegments s).dselN = s.dselN := rfl
@[simp] theorem writeSegments_aden (s : State) : (writeSegments s).aden = s.aden := rfl
@[simp] theorem writeSegments_gie (s : State) : (writeSegments s).gie = s.gie := rfl
@[simp] theorem writeSegments_run (s : State) : (writeSegments s).run = s.run := rfl
@[simp] theorem writeSegments_tpend (s : State) : (writeSegments s).tpend = s.tpend := rfl
@[simp] theorem writeSegments_cpend (s : State) : (writeSegments s).cpend = s.cpend := rfl
@[simp] theorem writeSegments_cdata (s : State) : (writeSegments s).cdata = s.cdata := rfl
@[simp] theorem writeSegments_pubmask (s : State) : (writeSegments s).pubmask = s.pubmask := rfl
@[simp] theorem writeSegments_prow (s : State) : (writeSegments s).prow = s.prow := rfl
@[simp] theorem writeSegments_adstarted (s : State) : (writeSegments s).adstarted = s.adstarted := rfl
@[simp] theorem writeSegments_adbusy (s : State) : (writeSegments s).adbusy = s.adbusy := rfl
@[simp] theorem writeSegments_cfg (s : State) : (writeSegments s).cfg = s.cfg := rfl
@[simp] theorem writeSegments_adcStarts (s : State) : (writeSegments s).adcStarts = s.adcStarts := rfl
@[simp] theorem writeSegments_resetCount (s : State) : (writeSegments s).resetCount = s.resetCount := rfl
@[simp] theorem writeSegments_events (s : State) : (writeSegments s).events = s.events := rfl

/-! ### `selectDigit` -/

@[simp] theorem selectDigit_cur (s : State) : (selectDigit s).cur = s.cur := rfl
@[simp] theorem selectDigit_pat (s : State) : (selectDigit s).pat = s.pat := rfl
@[simp] theorem selectDigit_phase (s : State) : (selectDigit s).phase = 0#3 := rfl
@[simp] theorem selectDigit_idx (s : State) : (selectDigit s).idx = s.idx := rfl
@[simp] theorem selectDigit_pbuf (s : State) : (selectDigit s).pbuf = s.pbuf := rfl
@[simp] theorem selectDigit_dly (s : State) : (selectDigit s).dly = s.dly := rfl
@[simp] theorem selectDigit_seg (s : State) : (selectDigit s).seg = s.seg := rfl
@[simp] theorem selectDigit_dselN (s : State) : (selectDigit s).dselN = onecold (selectIndex s) := rfl
@[simp] theorem selectDigit_aden (s : State) : (selectDigit s).aden = s.aden := rfl
@[simp] theorem selectDigit_gie (s : State) : (selectDigit s).gie = s.gie := rfl
@[simp] theorem selectDigit_run (s : State) : (selectDigit s).run = s.run := rfl
@[simp] theorem selectDigit_tpend (s : State) : (selectDigit s).tpend = s.tpend := rfl
@[simp] theorem selectDigit_cpend (s : State) : (selectDigit s).cpend = s.cpend := rfl
@[simp] theorem selectDigit_cdata (s : State) : (selectDigit s).cdata = s.cdata := rfl
@[simp] theorem selectDigit_pubmask (s : State) : (selectDigit s).pubmask = s.pubmask := rfl
@[simp] theorem selectDigit_prow (s : State) : (selectDigit s).prow = s.prow := rfl
@[simp] theorem selectDigit_adstarted (s : State) : (selectDigit s).adstarted = s.adstarted := rfl
@[simp] theorem selectDigit_adbusy (s : State) : (selectDigit s).adbusy = s.adbusy := rfl
@[simp] theorem selectDigit_cfg (s : State) : (selectDigit s).cfg = s.cfg := rfl
@[simp] theorem selectDigit_adcStarts (s : State) : (selectDigit s).adcStarts = s.adcStarts := rfl
@[simp] theorem selectDigit_resetCount (s : State) : (selectDigit s).resetCount = s.resetCount := rfl
@[simp] theorem selectDigit_events (s : State) : (selectDigit s).events = s.events := rfl

/-! ### `resetRegisters` -/

@[simp] theorem resetRegisters_cur (s : State) : (resetRegisters s).cur = s.cfg.curReset := rfl
@[simp] theorem resetRegisters_pat (s : State) : (resetRegisters s).pat = s.cfg.patReset := rfl
@[simp] theorem resetRegisters_phase (s : State) : (resetRegisters s).phase = 0#3 := rfl
@[simp] theorem resetRegisters_idx (s : State) : (resetRegisters s).idx = (resetDraw s).idx := rfl
@[simp] theorem resetRegisters_pbuf (s : State) : (resetRegisters s).pbuf = (resetDraw s).pbuf := rfl
@[simp] theorem resetRegisters_dly (s : State) : (resetRegisters s).dly = BitVec.ofNat 5 (resetDraw s).dly.val := rfl
@[simp] theorem resetRegisters_seg (s : State) : (resetRegisters s).seg = s.cfg.outReset.seg := rfl
@[simp] theorem resetRegisters_dselN (s : State) : (resetRegisters s).dselN = s.cfg.outReset.dselN := rfl
@[simp] theorem resetRegisters_aden (s : State) : (resetRegisters s).aden = false := rfl
@[simp] theorem resetRegisters_gie (s : State) : (resetRegisters s).gie = false := rfl
@[simp] theorem resetRegisters_run (s : State) : (resetRegisters s).run = false := rfl
@[simp] theorem resetRegisters_tpend (s : State) : (resetRegisters s).tpend = false := rfl
@[simp] theorem resetRegisters_cpend (s : State) : (resetRegisters s).cpend = false := rfl
@[simp] theorem resetRegisters_cdata (s : State) : (resetRegisters s).cdata = (resetDraw s).cdata := rfl
@[simp] theorem resetRegisters_pubmask (s : State) : (resetRegisters s).pubmask = 0#4 := rfl
@[simp] theorem resetRegisters_prow (s : State) : (resetRegisters s).prow = 0#2 := rfl
@[simp] theorem resetRegisters_adstarted (s : State) : (resetRegisters s).adstarted = false := rfl
@[simp] theorem resetRegisters_adbusy (s : State) : (resetRegisters s).adbusy = false := rfl
@[simp] theorem resetRegisters_cfg (s : State) : (resetRegisters s).cfg = s.cfg := rfl
@[simp] theorem resetRegisters_adcStarts (s : State) : (resetRegisters s).adcStarts = s.adcStarts := rfl
@[simp] theorem resetRegisters_resetCount (s : State) : (resetRegisters s).resetCount = s.resetCount + 1 := rfl
@[simp] theorem resetRegisters_events (s : State) : (resetRegisters s).events = s.events := rfl

/-! ### `raiseIrq` -/

@[simp] theorem raiseIrq_cur (src : IrqSource) (s : State) : (raiseIrq src s).cur = s.cur := by cases src <;> rfl
@[simp] theorem raiseIrq_pat (src : IrqSource) (s : State) : (raiseIrq src s).pat = s.pat := by cases src <;> rfl
@[simp] theorem raiseIrq_phase (src : IrqSource) (s : State) : (raiseIrq src s).phase = s.phase := by cases src <;> rfl
@[simp] theorem raiseIrq_idx (src : IrqSource) (s : State) : (raiseIrq src s).idx = s.idx := by cases src <;> rfl
@[simp] theorem raiseIrq_pbuf (src : IrqSource) (s : State) : (raiseIrq src s).pbuf = s.pbuf := by cases src <;> rfl
@[simp] theorem raiseIrq_dly (src : IrqSource) (s : State) : (raiseIrq src s).dly = s.dly := by cases src <;> rfl
@[simp] theorem raiseIrq_seg (src : IrqSource) (s : State) : (raiseIrq src s).seg = s.seg := by cases src <;> rfl
@[simp] theorem raiseIrq_dselN (src : IrqSource) (s : State) : (raiseIrq src s).dselN = s.dselN := by cases src <;> rfl
@[simp] theorem raiseIrq_aden (src : IrqSource) (s : State) : (raiseIrq src s).aden = s.aden := by cases src <;> rfl
@[simp] theorem raiseIrq_gie (src : IrqSource) (s : State) : (raiseIrq src s).gie = s.gie := by cases src <;> rfl
@[simp] theorem raiseIrq_run (src : IrqSource) (s : State) : (raiseIrq src s).run = s.run := by cases src <;> rfl
@[simp] theorem raiseIrq_cdata (src : IrqSource) (s : State) : (raiseIrq src s).cdata = s.cdata := by cases src <;> rfl
@[simp] theorem raiseIrq_pubmask (src : IrqSource) (s : State) : (raiseIrq src s).pubmask = s.pubmask := by cases src <;> rfl
@[simp] theorem raiseIrq_prow (src : IrqSource) (s : State) : (raiseIrq src s).prow = s.prow := by cases src <;> rfl
@[simp] theorem raiseIrq_adstarted (src : IrqSource) (s : State) : (raiseIrq src s).adstarted = s.adstarted := by cases src <;> rfl
@[simp] theorem raiseIrq_adbusy (src : IrqSource) (s : State) : (raiseIrq src s).adbusy = s.adbusy := by cases src <;> rfl
@[simp] theorem raiseIrq_cfg (src : IrqSource) (s : State) : (raiseIrq src s).cfg = s.cfg := by cases src <;> rfl
@[simp] theorem raiseIrq_adcStarts (src : IrqSource) (s : State) : (raiseIrq src s).adcStarts = s.adcStarts := by cases src <;> rfl
@[simp] theorem raiseIrq_resetCount (src : IrqSource) (s : State) : (raiseIrq src s).resetCount = s.resetCount := by cases src <;> rfl
@[simp] theorem raiseIrq_events (src : IrqSource) (s : State) : (raiseIrq src s).events = s.events := by cases src <;> rfl
@[simp] theorem raiseIrq_tick_tpend (s : State) : (raiseIrq .tick s).tpend = true := rfl
@[simp] theorem raiseIrq_tick_cpend (s : State) : (raiseIrq .tick s).cpend = s.cpend := rfl
@[simp] theorem raiseIrq_conv_cpend (s : State) : (raiseIrq .conv s).cpend = true := rfl
@[simp] theorem raiseIrq_conv_tpend (s : State) : (raiseIrq .conv s).tpend = s.tpend := rfl

/-! ### `enterHandler` -/

@[simp] theorem enterHandler_cur (src : IrqSource) (s : State) : (enterHandler src s).cur = s.cur := by cases src <;> rfl
@[simp] theorem enterHandler_pat (src : IrqSource) (s : State) : (enterHandler src s).pat = s.pat := by cases src <;> rfl
@[simp] theorem enterHandler_phase (src : IrqSource) (s : State) : (enterHandler src s).phase = s.phase := by cases src <;> rfl
@[simp] theorem enterHandler_idx (src : IrqSource) (s : State) : (enterHandler src s).idx = s.idx := by cases src <;> rfl
@[simp] theorem enterHandler_pbuf (src : IrqSource) (s : State) : (enterHandler src s).pbuf = s.pbuf := by cases src <;> rfl
@[simp] theorem enterHandler_dly (src : IrqSource) (s : State) : (enterHandler src s).dly = s.dly := by cases src <;> rfl
@[simp] theorem enterHandler_seg (src : IrqSource) (s : State) : (enterHandler src s).seg = s.seg := by cases src <;> rfl
@[simp] theorem enterHandler_dselN (src : IrqSource) (s : State) : (enterHandler src s).dselN = s.dselN := by cases src <;> rfl
@[simp] theorem enterHandler_aden (src : IrqSource) (s : State) : (enterHandler src s).aden = s.aden := by cases src <;> rfl
@[simp] theorem enterHandler_gie (src : IrqSource) (s : State) : (enterHandler src s).gie = s.gie := by cases src <;> rfl
@[simp] theorem enterHandler_run (src : IrqSource) (s : State) : (enterHandler src s).run = s.run := by cases src <;> rfl
@[simp] theorem enterHandler_cdata (src : IrqSource) (s : State) : (enterHandler src s).cdata = s.cdata := by cases src <;> rfl
@[simp] theorem enterHandler_pubmask (src : IrqSource) (s : State) : (enterHandler src s).pubmask = s.pubmask := by cases src <;> rfl
@[simp] theorem enterHandler_prow (src : IrqSource) (s : State) : (enterHandler src s).prow = s.prow := by cases src <;> rfl
@[simp] theorem enterHandler_adstarted (src : IrqSource) (s : State) : (enterHandler src s).adstarted = s.adstarted := by cases src <;> rfl
@[simp] theorem enterHandler_adbusy (src : IrqSource) (s : State) : (enterHandler src s).adbusy = s.adbusy := by cases src <;> rfl
@[simp] theorem enterHandler_cfg (src : IrqSource) (s : State) : (enterHandler src s).cfg = s.cfg := by cases src <;> rfl
@[simp] theorem enterHandler_adcStarts (src : IrqSource) (s : State) : (enterHandler src s).adcStarts = s.adcStarts := by cases src <;> rfl
@[simp] theorem enterHandler_resetCount (src : IrqSource) (s : State) : (enterHandler src s).resetCount = s.resetCount := by cases src <;> rfl
@[simp] theorem enterHandler_events (src : IrqSource) (s : State) : (enterHandler src s).events = s.events := by cases src <;> rfl
@[simp] theorem enterHandler_tick_tpend (s : State) : (enterHandler .tick s).tpend = false := rfl
@[simp] theorem enterHandler_tick_cpend (s : State) : (enterHandler .tick s).cpend = s.cpend := rfl
@[simp] theorem enterHandler_conv_cpend (s : State) : (enterHandler .conv s).cpend = false := rfl
@[simp] theorem enterHandler_conv_tpend (s : State) : (enterHandler .conv s).tpend = s.tpend := rfl

/-! ### `State.withCfg` -/

@[simp] theorem withCfg_cur (s : State) (c : Config) : (s.withCfg c).cur = s.cur := rfl
@[simp] theorem withCfg_pat (s : State) (c : Config) : (s.withCfg c).pat = s.pat := rfl
@[simp] theorem withCfg_phase (s : State) (c : Config) : (s.withCfg c).phase = s.phase := rfl
@[simp] theorem withCfg_idx (s : State) (c : Config) : (s.withCfg c).idx = s.idx := rfl
@[simp] theorem withCfg_pbuf (s : State) (c : Config) : (s.withCfg c).pbuf = s.pbuf := rfl
@[simp] theorem withCfg_dly (s : State) (c : Config) : (s.withCfg c).dly = s.dly := rfl
@[simp] theorem withCfg_seg (s : State) (c : Config) : (s.withCfg c).seg = s.seg := rfl
@[simp] theorem withCfg_dselN (s : State) (c : Config) : (s.withCfg c).dselN = s.dselN := rfl
@[simp] theorem withCfg_aden (s : State) (c : Config) : (s.withCfg c).aden = s.aden := rfl
@[simp] theorem withCfg_gie (s : State) (c : Config) : (s.withCfg c).gie = s.gie := rfl
@[simp] theorem withCfg_run (s : State) (c : Config) : (s.withCfg c).run = s.run := rfl
@[simp] theorem withCfg_tpend (s : State) (c : Config) : (s.withCfg c).tpend = s.tpend := rfl
@[simp] theorem withCfg_cpend (s : State) (c : Config) : (s.withCfg c).cpend = s.cpend := rfl
@[simp] theorem withCfg_cdata (s : State) (c : Config) : (s.withCfg c).cdata = s.cdata := rfl
@[simp] theorem withCfg_pubmask (s : State) (c : Config) : (s.withCfg c).pubmask = s.pubmask := rfl
@[simp] theorem withCfg_prow (s : State) (c : Config) : (s.withCfg c).prow = s.prow := rfl
@[simp] theorem withCfg_adstarted (s : State) (c : Config) : (s.withCfg c).adstarted = s.adstarted := rfl
@[simp] theorem withCfg_adbusy (s : State) (c : Config) : (s.withCfg c).adbusy = s.adbusy := rfl
@[simp] theorem withCfg_cfg (s : State) (c : Config) : (s.withCfg c).cfg = c := rfl
@[simp] theorem withCfg_adcStarts (s : State) (c : Config) : (s.withCfg c).adcStarts = s.adcStarts := rfl
@[simp] theorem withCfg_resetCount (s : State) (c : Config) : (s.withCfg c).resetCount = s.resetCount := rfl
@[simp] theorem withCfg_events (s : State) (c : Config) : (s.withCfg c).events = s.events := rfl

/-- Return from a handler changes nothing (R165). -/
@[simp] theorem leaveHandler_eq (s : State) : leaveHandler s = s := rfl

end Sys2Proof.Machine
end

