-- ==== Sys2Proof/Laws/Ops.lean ====
section
/-! SUPPORT. What each shared operation and each computed operand can do, said once; later proofs cite these. -/

namespace Sys2Proof.Machine

/-! ### An operation with its enabling condition -/

/-- A guarded operation answers a next state exactly when its `pre:` holds, and then the one named. -/
@[simp] theorem guarded_next_iff (pre : Bool) (i : Instr) (t u : State) :
    guarded pre i t = .next u ↔ pre = true ∧ t = u := by
  cases pre <;> simp [guarded]

/-- A guarded operation refuses exactly when its `pre:` fails, and under the name of the operation. -/
@[simp] theorem guarded_refused_iff (pre : Bool) (i : Instr) (t : State) (r : Refusal) :
    guarded pre i t = .refused r ↔ pre = false ∧ .notEnabled i = r := by
  cases pre <;> simp [guarded]

/-! ### Pattern sets -/

/-- A written element reads back; the others read as before. -/
theorem patRead_patWrite (p : Patterns) (i j : Digit) (v : Byte) :
    patRead (patWrite p i v) j = if j = i then v else patRead p j := by
  have split4 : ∀ x : Digit, x = 0 ∨ x = 1 ∨ x = 2 ∨ x = 3 := by decide
  rcases split4 i with rfl | rfl | rfl | rfl <;> rcases split4 j with rfl | rfl | rfl | rfl <;>
    simp [patRead, patWrite]

@[simp] theorem patRead_patWrite_self (p : Patterns) (i : Digit) (v : Byte) :
    patRead (patWrite p i v) i = v := by simp [patRead_patWrite]

theorem patRead_patWrite_ne (p : Patterns) {i j : Digit} (v : Byte) (h : j ≠ i) :
    patRead (patWrite p i v) j = patRead p j := by simp [patRead_patWrite, h]

/-- Two pattern sets with the same four elements are equal. -/
theorem patterns_ext {p q : Patterns} (h : ∀ i, patRead p i = patRead q i) : p = q := by
  have h0 := h 0; have h1 := h 1; have h2 := h 2; have h3 := h 3
  cases p; cases q
  simp [patRead] at h0 h1 h2 h3
  simp [h0, h1, h2, h3]

/-! ### The marks of a split publish -/

/-- Clearing a mark clears that mark and no other. -/
theorem stillToWrite_clearMark (m : Lines) (i j : Digit) :
    stillToWrite (clearMark m i) j = (stillToWrite m j && j != i) := by
  revert m i j; decide

/-- With no mark set nothing is still to be written. -/
@[simp] theorem stillToWrite_zero (i : Digit) : stillToWrite 0#4 i = false := by revert i; decide

/-- With all four marks set every element is. -/
@[simp] theorem stillToWrite_all (i : Digit) : stillToWrite 15#4 i = true := by revert i; decide

/-- No mark is left exactly when every element has been written. -/
theorem marks_zero_iff (m : Lines) : m = 0#4 ↔ ∀ i, stillToWrite m i = false := by
  revert m; decide

/-! ### Bands, rows, select codes -/

@[simp] theorem bandOfCode_bandCode (b : Band) : bandOfCode (bandCode b) = some b := by cases b <;> decide

/-- A code has a band unless it is the unused 3 (R83). -/
theorem bandOfCode_eq_none_iff (c : BitVec 2) : bandOfCode c = none ↔ c = 3#2 := by revert c; decide

theorem bandCode_bandOfCode {c : BitVec 2} {b : Band} (h : bandOfCode c = some b) : bandCode b = c := by
  revert h; revert c b
  intro c b; revert c; cases b <;> decide

@[simp] theorem bandCode_ne_three (b : Band) : ¬ bandCode b = 3#2 := by cases b <;> decide

/-- Every byte of the table is one of `TABLE_BYTES` (R23). -/
theorem rowRead_mem_tableBytes (b : Band) (i : Digit) : rowRead b i ∈ tableBytes := by
  revert i; cases b <;> decide

/-- Select codes of different positions differ. -/
theorem onecold_injective {c d : Digit} (h : onecold c = onecold d) : c = d := by
  revert c d; decide

/-! ### Interrupt arbitration -/

/-- What must hold for a handler to start (R160). -/
theorem handlerMayStart_iff (src : IrqSource) (s : State) :
    handlerMayStart src s = true ↔
      s.gie = true ∧ pending src s = true ∧ s.pubmask = 0#4 ∧ heldBack src s = false := by
  simp [handlerMayStart, handlerInProgress, and_assoc]

/-- What a sequencer transition needs (R74). -/
theorem seqAt_iff (k : Phase) (s : State) : seqAt k s = true ↔ s.run = true ∧ s.phase = k := by
  simp [seqAt]

/-- What a conversion result needs, under either converter model (R104). -/
theorem adcdoneEnabled_iff (s : State) :
    adcdoneEnabled s = true ↔
      (s.cfg.adcModel = .free → s.adstarted = true) ∧ (s.cfg.adcModel = .oneShot → s.adbusy = true) := by
  unfold adcdoneEnabled
  cases s.cfg.adcModel <;> simp

/-- Without a request since reset and none in flight there is no result to come. -/
theorem adcdoneEnabled_eq_false {s : State} (h : s.adstarted = false) (hb : s.adbusy = false) :
    adcdoneEnabled s = false := by
  unfold adcdoneEnabled
  cases s.cfg.adcModel <;> simp [h, hb]

/-- What a split-mode element write needs (R78, R111). -/
theorem pubwEnabled_iff (i : Digit) (s : State) :
    pubwEnabled i s = true ↔ s.cfg.publishMode = .split ∧ stillToWrite s.pubmask i = true := by
  simp [pubwEnabled]

/-- What the tick handler needs (R91). -/
theorem tickHandler_iff (s : State) :
    handlerMayStart .tick s = true ↔
      s.gie = true ∧ s.tpend = true ∧ s.pubmask = 0#4 ∧ (s.cfg.irqPriority = .convFirst → s.cpend = false) := by
  rw [handlerMayStart_iff]
  cases h : s.cfg.irqPriority <;> simp [heldBack, pending, h]

/-- What the conversion handler needs (R105). -/
theorem convHandler_iff (s : State) :
    handlerMayStart .conv s = true ↔
      s.gie = true ∧ s.cpend = true ∧ s.pubmask = 0#4 ∧ (s.cfg.irqPriority = .tickFirst → s.tpend = false) := by
  rw [handlerMayStart_iff]
  cases h : s.cfg.irqPriority <;> simp [heldBack, pending, h]

/-- Publishing in atomic mode. -/
theorem publish_atomic {s : State} (b : Band) (h : s.cfg.publishMode = .atomic) : publish b s = latchRow b s := by
  simp [publish, h]

/-- Publishing in split mode. -/
theorem publish_split {s : State} (b : Band) (h : s.cfg.publishMode = .split) : publish b s = beginPublish b s := by
  simp [publish, h]

/-! ### Fetching -/

theorem fetchEvent_cons {s : State} {w : EventWord} {rest : List EventWord} (h : s.events = w :: rest) :
    fetchEvent s = some (w, { s with events := rest }) := by simp [fetchEvent, h]

theorem fetchEvent_nil {s : State} (h : s.events = []) : fetchEvent s = none := by simp [fetchEvent, h]

end Sys2Proof.Machine
end

