-- ==== Sys2Proof/Laws/Exec.lean ====
section
/-! SUPPORT. The inversion lemma of `exec`: when an operation is a transition and what it leads to, said once for all
fourteen; and the one-line forms for each. -/

namespace Sys2Proof.Machine

/-- What an operation does when it is a transition. -/
def effect (i : Instr) (s : State) : State :=
  match i with
  | .rst => resetRegisters s
  | .init => startLoop s
  | .tickin => raiseIrq .tick s
  | .adcdone v => raiseIrq .conv (latchResult v s)
  | .tick => advanceCursor (enterHandler .tick s)
  | .conv => publish (bandOf s.cdata) (enterHandler .conv s)
  | .pubw k => writeElement ((bandOfCode s.prow).getD .low) k s
  | .arm => armConverter s
  | .wait => waitUnit s
  | .trig => requestConversion s
  | .rdcur => readCursor s
  | .selpat => selectPattern s
  | .wrpat => writeSegments s
  | .seldig => selectDigit s

/-- When an operation is a transition: its `pre:` holds, and a `PUBW` has a row to write (U22). -/
def transits (i : Instr) (s : State) : Bool :=
  match i with
  | .pubw _ => enabled i s && s.prow != 3#2
  | .rst | .init | .tickin | .adcdone _ | .tick | .conv | .arm | .wait | .trig | .rdcur | .selpat | .wrpat
  | .seldig => enabled i s

/-- `PUBW` answers a next state exactly when its mark is set in split mode and the row code is a band's. -/
theorem execPubw_next_iff (k : Digit) (s t : State) :
    execPubw k s = .next t ↔
      pubwEnabled k s = true ∧ ∃ b, bandOfCode s.prow = some b ∧ writeElement b k s = t := by
  unfold execPubw
  cases pubwEnabled k s <;> cases bandOfCode s.prow <;> simp

/-- The inversion lemma: an operation leads exactly to its effect, exactly when it is a transition. -/
theorem exec_next_iff (i : Instr) (s t : State) : exec i s = .next t ↔ transits i s = true ∧ effect i s = t := by
  cases i with
  | rst => simp [exec, execRst, transits, enabled, effect]
  | pubw k =>
    simp only [exec, execPubw_next_iff, transits, enabled, effect, Bool.and_eq_true, bne_iff_ne, ne_eq,
      ← bandOfCode_eq_none_iff]
    cases bandOfCode s.prow <;> simp
  | init => simp [exec, execInit, transits, enabled, effect]
  | tickin => simp [exec, execTickin, transits, enabled, effect]
  | adcdone v => simp [exec, execAdcdone, transits, enabled, effect]
  | tick => simp [exec, execTick, transits, enabled, effect]
  | conv => simp [exec, execConv, transits, enabled, effect, adcRead]
  | arm => simp [exec, execArm, transits, enabled, effect]
  | wait => simp [exec, execWait, transits, enabled, effect]
  | trig => simp [exec, execTrig, transits, enabled, effect]
  | rdcur => simp [exec, execRdcur, transits, enabled, effect]
  | selpat => simp [exec, execSelpat, transits, enabled, effect]
  | wrpat => simp [exec, execWrpat, transits, enabled, effect]
  | seldig => simp [exec, execSeldig, transits, enabled, effect]

/-- A transition's operation was enabled. -/
theorem enabled_of_transits {i : Instr} {s : State} (h : transits i s = true) : enabled i s = true := by
  cases i <;> simp_all [transits]

/-- An operation other than `PUBW` is a transition exactly when it is enabled. -/
theorem transits_eq_enabled {i : Instr} (s : State) (h : ∀ k, i ≠ .pubw k) : transits i s = enabled i s := by
  cases i <;> simp_all [transits]

/-- Where an operation leads, from the one lemma above. -/
theorem exec_of_transits {i : Instr} {s : State} (h : transits i s = true) : exec i s = .next (effect i s) :=
  (exec_next_iff i s _).mpr ⟨h, rfl⟩

/-- What is not a transition answers no next state. -/
theorem exec_not_next {i : Instr} {s : State} (h : transits i s = false) (t : State) : exec i s ≠ .next t := by
  intro e
  simp [exec_next_iff, h] at e

/-- The name under which an operation that is no transition is refused. -/
def refusalOf (i : Instr) (s : State) : Refusal := if enabled i s then .bandCodeThree else .notEnabled i

/-- All of `exec`: the effect where the operation is a transition, a refusal where it is not. -/
theorem exec_eq (i : Instr) (s : State) :
    exec i s = if transits i s then .next (effect i s) else .refused (refusalOf i s) := by
  cases h : transits i s with
  | true => simp [exec_of_transits h]
  | false =>
    simp only [Bool.false_eq_true, ↓reduceIte]
    cases i with
    | rst => simp [transits, enabled] at h
    | pubw k =>
      simp only [transits, Bool.and_eq_false_iff, bne_eq_false_iff_eq] at h
      cases e : pubwEnabled k s with
      | false => simp [exec, execPubw, refusalOf, enabled, e]
      | true =>
        have h3 : s.prow = 3#2 := by simpa [enabled, e] using h
        simp [exec, execPubw, refusalOf, enabled, e, (bandOfCode_eq_none_iff s.prow).mpr h3]
    | init => simp_all [transits, refusalOf, exec, execInit, enabled]
    | tickin => simp_all [transits, refusalOf, exec, execTickin, enabled]
    | adcdone v => simp_all [transits, refusalOf, exec, execAdcdone, enabled]
    | tick => simp_all [transits, refusalOf, exec, execTick, enabled]
    | conv => simp_all [transits, refusalOf, exec, execConv, enabled]
    | arm => simp_all [transits, refusalOf, exec, execArm, enabled]
    | wait => simp_all [transits, refusalOf, exec, execWait, enabled]
    | trig => simp_all [transits, refusalOf, exec, execTrig, enabled]
    | rdcur => simp_all [transits, refusalOf, exec, execRdcur, enabled]
    | selpat => simp_all [transits, refusalOf, exec, execSelpat, enabled]
    | wrpat => simp_all [transits, refusalOf, exec, execWrpat, enabled]
    | seldig => simp_all [transits, refusalOf, exec, execSeldig, enabled]

/-- The events still to be offered decide nothing about an operation. -/
@[simp] theorem enabled_setEvents (i : Instr) (s : State) (l : List EventWord) :
    enabled i { s with events := l } = enabled i s := by
  cases i <;> rfl

@[simp] theorem transits_setEvents (i : Instr) (s : State) (l : List EventWord) :
    transits i { s with events := l } = transits i s := by
  cases i <;> rfl

/-- An operation runs the same whatever events are still to be offered. -/
theorem effect_setEvents (i : Instr) (s : State) (l : List EventWord) :
    effect i { s with events := l } = { effect i s with events := l } := by
  cases i <;> first | rfl | (simp only [effect, publish, enterHandler]; split <;> rfl)

/-- No operation writes the parameters. -/
@[simp] theorem effect_cfg (i : Instr) (s : State) : (effect i s).cfg = s.cfg := by
  cases i <;> simp [effect]
  all_goals unfold publish; split <;> simp

/-- No operation touches the events still to be offered. -/
@[simp] theorem effect_events (i : Instr) (s : State) : (effect i s).events = s.events := by
  cases i <;> simp [effect]
  all_goals unfold publish; split <;> simp

end Sys2Proof.Machine
end

