-- ==== Sys2Proof/Laws/Trace.lean ====
section
/-! SUPPORT. How traces run: one operation more, two traces in a row, and the induction over a trace packaged once. -/

namespace Sys2Proof.Machine

@[simp] theorem leads_nil (s t : State) : Leads [] s t ↔ s = t := by simp [Leads, runTrace]

/-- A trace runs its first operation and then the rest. -/
theorem leads_cons (i : Instr) (p : Trace) (s t : State) :
    Leads (i :: p) s t ↔ transits i s = true ∧ Leads p (effect i s) t := by
  unfold Leads
  cases h : transits i s with
  | true => simp [runTrace, exec_of_transits h]
  | false =>
    simp only [runTrace, Bool.false_eq_true, false_and, iff_false]
    cases e : exec i s with
    | next u => exact absurd e (exec_not_next h u)
    | fault r => nofun
    | refused r => nofun

/-- Two traces in a row meet in one state. -/
theorem leads_append (p q : Trace) (s t : State) : Leads (p ++ q) s t ↔ ∃ u, Leads p s u ∧ Leads q u t := by
  induction p generalizing s with
  | nil => simp
  | cons i p ih =>
    simp only [List.cons_append, leads_cons, ih]
    constructor
    · rintro ⟨h, u, hp, hq⟩; exact ⟨u, ⟨h, hp⟩, hq⟩
    · rintro ⟨u, ⟨h, hp⟩, hq⟩; exact ⟨h, u, hp, hq⟩

/-- The induction over a trace: what the first state has and every operation of the trace keeps, the last state has. -/
theorem leads_induction {P : State → Prop} {p : Trace} {s t : State} (h : Leads p s t) (h0 : P s)
    (keep : ∀ i ∈ p, ∀ u, P u → transits i u = true → P (effect i u)) : P t := by
  induction p generalizing s with
  | nil => simp only [leads_nil] at h; exact h ▸ h0
  | cons i p ih =>
    obtain ⟨hi, hp⟩ := (leads_cons i p s t).mp h
    exact ih hp (keep i (by simp) s h0 hi) (fun j hj => keep j (by simp [hj]))

/-- A trace leaves the parameters alone. -/
theorem leads_cfg {p : Trace} {s t : State} (h : Leads p s t) : t.cfg = s.cfg :=
  leads_induction (P := fun u => u.cfg = s.cfg) h rfl (fun _ _ _ hu _ => by simp [hu])

end Sys2Proof.Machine
end

