-- ==== Sys2Proof/Laws/Frame.lean ====
section
/-! SUPPORT. What each operation leaves unchanged, register by register, and what a stretch of a trace in which the
sequencer does not move leaves of the sequencer's registers and outputs. -/

namespace Sys2Proof.Machine

/-! ### One operation -/

/-- Only `TICK` and `RST` write the Cursor (R21). -/
theorem effect_cur {i : Instr} (s : State) (h : i ≠ .rst) :
    (effect i s).cur = if i = .tick then s.cur + 1#2 else s.cur := by
  cases i <;> simp_all [effect]
  unfold publish; split <;> simp

/-- Only `CONV`, `PUBW` and `RST` write the pattern set (R22). -/
theorem effect_pat {i : Instr} (s : State) (h : i ≠ .rst) (hc : i ≠ .conv) (hp : ∀ k, i ≠ .pubw k) :
    (effect i s).pat = s.pat := by
  cases i <;> simp_all [effect]

/-- Only `INIT` and `RST` write `RUN` (R33). -/
theorem effect_run {i : Instr} (s : State) (h : i ≠ .rst) (hi : i ≠ .init) : (effect i s).run = s.run := by
  cases i <;> simp_all [effect]
  unfold publish; split <;> simp

/-- Only `INIT` and `RST` write `GIE` (R32). -/
theorem effect_gie {i : Instr} (s : State) (h : i ≠ .rst) (hi : i ≠ .init) : (effect i s).gie = s.gie := by
  cases i <;> simp_all [effect]
  unfold publish; split <;> simp

/-- Only `TICKIN`, `TICK` and `RST` write `TPEND` (R34). -/
theorem effect_tpend {i : Instr} (s : State) (h : i ≠ .rst) (hs : i ≠ .tickin) (hc : i ≠ .tick) :
    (effect i s).tpend = s.tpend := by
  cases i <;> simp_all [effect]
  unfold publish; split <;> simp

/-- Only `ADCDONE`, `CONV` and `RST` write `CPEND` (R35). -/
theorem effect_cpend {i : Instr} (s : State) (h : i ≠ .rst) (hs : ∀ v, i ≠ .adcdone v) (hc : i ≠ .conv) :
    (effect i s).cpend = s.cpend := by
  cases i <;> simp_all [effect]

/-- Only `ADCDONE` and `RST` write `CDATA` (R36). -/
theorem effect_cdata {i : Instr} (s : State) (h : i ≠ .rst) (hs : ∀ v, i ≠ .adcdone v) :
    (effect i s).cdata = s.cdata := by
  cases i <;> simp_all [effect]
  unfold publish; split <;> simp

/-- Only `CONV`, `PUBW` and `RST` write `PUBMASK` (R37). -/
theorem effect_pubmask {i : Instr} (s : State) (h : i ≠ .rst) (hc : i ≠ .conv) (hp : ∀ k, i ≠ .pubw k) :
    (effect i s).pubmask = s.pubmask := by
  cases i <;> simp_all [effect]

/-- Only `CONV` and `RST` write `PROW` (R37). -/
theorem effect_prow {i : Instr} (s : State) (h : i ≠ .rst) (hc : i ≠ .conv) : (effect i s).prow = s.prow := by
  cases i <;> simp_all [effect]

/-- Only `WRPAT` and `RST` write `SEG` (R29). -/
theorem effect_seg {i : Instr} (s : State) (h : i ≠ .rst) (hw : i ≠ .wrpat) : (effect i s).seg = s.seg := by
  cases i <;> simp_all [effect]
  unfold publish; split <;> simp

/-- Only `SELDIG` and `RST` write `DSEL_N` (R30). -/
theorem effect_dselN {i : Instr} (s : State) (h : i ≠ .rst) (hd : i ≠ .seldig) : (effect i s).dselN = s.dselN := by
  cases i <;> simp_all [effect]
  unfold publish; split <;> simp

/-- Only `SELPAT` and `RST` write `PBUF` (R27). -/
theorem effect_pbuf {i : Instr} (s : State) (h : i ≠ .rst) (hd : i ≠ .selpat) : (effect i s).pbuf = s.pbuf := by
  cases i <;> simp_all [effect]
  unfold publish; split <;> simp

/-- An operation of another agent leaves the sequencer's registers and outputs alone (R39, R120). -/
theorem effect_of_other {i : Instr} (s : State) (h : i.isSeq = false) (hr : i ≠ .rst) :
    (effect i s).phase = s.phase ∧ (effect i s).dly = s.dly ∧ (effect i s).idx = s.idx ∧
    (effect i s).pbuf = s.pbuf ∧ (effect i s).seg = s.seg ∧ (effect i s).dselN = s.dselN ∧
    (effect i s).aden = s.aden := by
  cases i <;> simp_all [effect, Instr.isSeq, Instr.agent]
  unfold publish; split <;> simp

/-! ### A stretch of a trace -/

/-- A trace ends in one state. -/
theorem leads_unique {p : Trace} {s t u : State} (ht : Leads p s t) (hu : Leads p s u) : t = u := by
  unfold Leads at ht hu
  rw [ht] at hu
  injection hu

/-- While only the other agents move, the sequencer's registers and outputs stay, and the Cursor counts the `TICK`. -/
theorem leads_others {p : Trace} {s t : State} (h : Leads p s t) (ho : OthersOnly p) :
    t.phase = s.phase ∧ t.dly = s.dly ∧ t.idx = s.idx ∧ t.pbuf = s.pbuf ∧ t.seg = s.seg ∧ t.dselN = s.dselN ∧
    t.aden = s.aden ∧ t.cur = s.cur + BitVec.ofNat 2 (occurrences .tick p) := by
  induction p generalizing s with
  | nil => simp only [leads_nil] at h; subst h; simp [occurrences]
  | cons i p ih =>
    obtain ⟨-, hp⟩ := (leads_cons _ _ _ _).mp h
    obtain ⟨hs, hr⟩ := ho i (by simp)
    obtain ⟨e1, e2, e3, e4, e5, e6, e7⟩ := effect_of_other s hs hr
    obtain ⟨t1, t2, t3, t4, t5, t6, t7, t8⟩ := ih hp (fun j hj => ho j (by simp [hj]))
    refine ⟨t1.trans e1, t2.trans e2, t3.trans e3, t4.trans e4, t5.trans e5, t6.trans e6, t7.trans e7, ?_⟩
    rw [t8, effect_cur s hr]
    by_cases hk : i = .tick
    · subst hk
      simp only [occurrences, List.count_cons_self, if_true]
      apply BitVec.eq_of_toNat_eq; simp [BitVec.toNat_add]; omega
    · simp [hk, occurrences]

/-- The mismatch is followed one operation at a time. -/
theorem mismatched_cons {i : Instr} {s : State} (m : Bool) (p : Trace) (h : transits i s = true) :
    mismatched m (i :: p) s = mismatched (mismatchAfter m i s) p (effect i s) := by
  simp [mismatched, exec_of_transits h]

/-- Over two traces in a row the mismatch is that of the second, begun with that of the first. -/
theorem mismatched_append {p : Trace} {s u : State} (m : Bool) (q : Trace) (h : Leads p s u) :
    mismatched m (p ++ q) s = mismatched (mismatched m p s) q u := by
  induction p generalizing s m with
  | nil => simp only [leads_nil] at h; subst h; rfl
  | cons i p ih =>
    obtain ⟨hi, hp⟩ := (leads_cons _ _ _ _).mp h
    rw [List.cons_append, mismatched_cons m _ hi, mismatched_cons m _ hi, ih _ hp]

/-- Only `SELDIG`, `WRPAT` and `RST` change whether the display is mismatched (R127). -/
theorem mismatchAfter_of_ne {i : Instr} (m : Bool) (s : State) (hd : i ≠ .seldig) (hw : i ≠ .wrpat) (hr : i ≠ .rst) :
    mismatchAfter m i s = m := by
  cases i <;> simp_all [mismatchAfter]

/-- One line low is one position lit (R82, R128). -/
theorem litPositions_onecold {s : State} {c : Digit} (h : s.dselN = onecold c) : litPositions s = [c] := by
  have one : ∀ c : Digit, [0, 1, 2, 3].filter (fun k : Digit => !(onecold c).getLsbD k.toNat) = [c] := by decide
  have e : lit s = fun k : Digit => !(onecold c).getLsbD k.toNat := by funext k; simp [lit, h]
  rw [litPositions, e]; exact one c

end Sys2Proof.Machine
end

