-- ==== Sys2Proof/Laws/PerInstr.lean ====
section
/-! SUPPORT. A statement about every operation as syntax, one lemma per constructor: its word carries the SEQ bit exactly
when the sequencer owns it (R74: `op[3] = 1` exactly for SEQ operations). -/

namespace Sys2Proof.Laws.SeqBit

/-- Bit 11 of the event word, `op[3]`, says whether the operation is the sequencer's (R74). -/
def Statement (i : Instr) : Prop := (encode i).getLsbD 11 = i.isSeq

theorem rst : Statement .rst := by unfold Statement; decide
theorem init : Statement .init := by unfold Statement; decide
theorem tickin : Statement .tickin := by unfold Statement; decide
theorem adcdone (v : Byte) : Statement (.adcdone v) := by unfold Statement; revert v; decide
theorem tick : Statement .tick := by unfold Statement; decide
theorem conv : Statement .conv := by unfold Statement; decide
theorem pubw (i : Digit) : Statement (.pubw i) := by unfold Statement; revert i; decide
theorem arm : Statement .arm := by unfold Statement; decide
theorem wait : Statement .wait := by unfold Statement; decide
theorem trig : Statement .trig := by unfold Statement; decide
theorem rdcur : Statement .rdcur := by unfold Statement; decide
theorem selpat : Statement .selpat := by unfold Statement; decide
theorem wrpat : Statement .wrpat := by unfold Statement; decide
theorem seldig : Statement .seldig := by unfold Statement; decide

end Sys2Proof.Laws.SeqBit
end

