-- ==== Sys2Proof/Laws/Step.lean ====
section
/-! SUPPORT. The inversion lemma of `step`. -/

namespace Sys2Proof.Machine

/-- A step that answers a next state ran the operation its event word decodes to, on the state without that word. -/
theorem step_next_iff (s t : State) :
    step s = .next t ↔ ∃ w rest i, s.events = w :: rest ∧ decode w = .instr i ∧
      exec i { s with events := rest } = .next t := by
  unfold step
  cases h : s.events with
  | nil => simp [fetchEvent_nil h]
  | cons w rest =>
    simp only [fetchEvent_cons h, List.cons.injEq]
    cases hd : decode w with
    | instr i =>
      constructor
      · intro e; exact ⟨w, rest, i, ⟨rfl, rfl⟩, hd, e⟩
      · rintro ⟨w', rest', i', ⟨rfl, rfl⟩, hd', e⟩
        rw [hd] at hd'; cases hd'; exact e
    | bad e =>
      simp only [reduceCtorEq, false_iff, not_exists, not_and]
      rintro w' rest' i' ⟨rfl, rfl⟩ hd'
      rw [hd] at hd'; cases hd'

/-- The word stored by `withFetchWord` is the one the next step fetches. -/
theorem fetchEvent_withFetchWord {s : State} {nbits w : Nat} {e : EventWord} (h : tableWord nbits w = some e) :
    fetchEvent (s.withFetchWord nbits w) = some (e, s) := by
  simp [State.withFetchWord, offerWord, h, fetchEvent]

end Sys2Proof.Machine
end

