-- ==== Sys2Proof/Machine/TraceText.lean ====
section
/-! DEFINITION. The textual syntax of traces (R85): operations on lines of their own or separated by `;`, upper-case
mnemonics, operands in decimal or `0x` hexadecimal, comments from `#` to the end of the line, and `xN` repeating an
operation or a parenthesised group. Text is read as a list of characters; what does not fit the syntax is no trace. -/

namespace Sys2Proof.Machine

/-- A token of the trace syntax. -/
inductive Token where
  | word (cs : List Char)
  | opening
  | closing
  | separator
deriving DecidableEq, Repr

/-- Put a finished word, kept in reverse while it is read, before the tokens that follow it. -/
def flushWord (w : List Char) (rest : List Token) : List Token :=
  match w with
  | [] => rest
  | _ => .word w.reverse :: rest

/-- Cut a text into tokens; `w` is the word being read, in reverse, and `skip` says a comment is being read.
Which characters separate and end words, beyond R85's `;`, lines, `#` and parentheses, is the model's choice (DESIGN
CHOICE, log entry 11). -/
def tokens (skip : Bool) (w : List Char) : List Char → List Token
  | [] => flushWord w []
  | c :: cs =>
    if c = '\n' then flushWord w (.separator :: tokens false [] cs)
    else if skip then tokens true w cs
    else if c = '#' then flushWord w (tokens true [] cs)
    else if c = ';' then flushWord w (.separator :: tokens false [] cs)
    else if c = '(' then flushWord w (.opening :: tokens false [] cs)
    else if c = ')' then flushWord w (.closing :: tokens false [] cs)
    else if c = ' ' ∨ c = '\t' ∨ c = '\r' then flushWord w (tokens false [] cs)
    else tokens false (c :: w) cs

/-- The value of a digit in a base of at most 16. -/
def digitValue (base : Nat) (c : Char) : Option Nat :=
  let n := c.toNat
  let d := if 48 ≤ n ∧ n ≤ 57 then n - 48
    else if 65 ≤ n ∧ n ≤ 70 then n - 55
    else if 97 ≤ n ∧ n ≤ 102 then n - 87
    else 16
  if d < base then some d else none

/-- Read digits into an accumulator. -/
def readDigits (base : Nat) : List Char → Nat → Option Nat
  | [], acc => some acc
  | c :: cs, acc =>
    match digitValue base c with
    | some d => readDigits base cs (acc * base + d)
    | none => none

/-- A number, decimal or `0x` hexadecimal (R85); that leading zeros and hexadecimal digits of either case are allowed
is the model's choice (DESIGN CHOICE, log entry 11). -/
def readNumber : List Char → Option Nat
  | [] => none
  | ['0', 'x'] => none
  | '0' :: 'x' :: cs => readDigits 16 cs 0
  | cs => readDigits 10 cs 0

/-- `xN`, a repetition count (R85). R85 gives `N` no base: that it is decimal only, and that `x0x14` is no count, is the
model's choice (DESIGN CHOICE, log entry 11). -/
def readRepeat : List Char → Option Nat
  | 'x' :: c :: cs => readDigits 10 (c :: cs) 0
  | _ => none

/-- An operand of `width` bits, in its range (R85). -/
def readOperand (width : Nat) (cs : List Char) : Option (BitVec width) :=
  match readNumber cs with
  | some n => if n < 2 ^ width then some (BitVec.ofNat width n) else none
  | none => none

/-- The operations and pseudo-operations that have no operand (R70, R86). -/
def plainOps : List (List Char × Trace) :=
  [ ("RST".toList, [.rst]), ("INIT".toList, [.init]), ("TICKIN".toList, [.tickin]), ("TICK".toList, [.tick]),
    ("CONV".toList, [.conv]), ("ARM".toList, [.arm]), ("WAIT".toList, [.wait]), ("TRIG".toList, [.trig]) ] ++
  [ ("RDCUR".toList, [.rdcur]), ("SELPAT".toList, [.selpat]), ("WRPAT".toList, [.wrpat]),
    ("SELDIG".toList, [.seldig]), ("START_CYCLE".toList, startCycleOps), ("SHOW".toList, showOps),
    ("ITER".toList, iterationOps), ("TICKSVC".toList, Pseudo.expand .ticksvc), ("BOOT".toList, Pseudo.expand .boot) ]

/-- The expansion of a word that takes no operand. -/
def readPlain (w : List Char) : Option Trace :=
  match plainOps.find? (fun p => p.1 == w) with
  | some p => some p.2
  | none => none

/-- The expansion of a word with the operand that follows it. R85 gives `ADCDONE`'s operand in decimal or `0x`
hexadecimal and says only `0 to 3` of `PUBW`'s: that `PUBW`, `SAMPLE` and `SAMPLE4` take either base too is the model's
choice, as is that `SAMPLE4 v` stands for the order 0, 1, 2, 3 (R86) (DESIGN CHOICE, log entry 11). -/
def readWithOperand (w arg : List Char) : Option Trace :=
  if w = "ADCDONE".toList then (readOperand 8 arg).map (fun v => [.adcdone v])
  else if w = "PUBW".toList then (readOperand 2 arg).map (fun i => [.pubw i])
  else if w = "SAMPLE".toList then (readOperand 8 arg).map (fun v => Pseudo.expand (.sample v))
  else if w = "SAMPLE4".toList then (readOperand 8 arg).map (fun v => Pseudo.expand (.sample4 v [0, 1, 2, 3]))
  else none

/-- Read tokens. `outer` holds what stands before each group still open, `done` the operations of the current group
before its last item, `last` that item, none where a new one may begin. R85 only says that `xN` repeats a group: that a
group may contain groups, may be empty and may stand without `xN` is the model's choice (DESIGN CHOICE, log entry 11). -/
def readItems (outer : List Trace) (done : Trace) (last : Option Trace) : List Token → Option Trace
  | [] => if outer.isEmpty then some (done ++ last.getD []) else none
  | .separator :: ts => readItems outer (done ++ last.getD []) none ts
  | .opening :: ts => if last.isNone then readItems (done :: outer) [] none ts else none
  | .closing :: ts =>
    match outer with
    | before :: rest => readItems rest before (some (done ++ last.getD [])) ts
    | [] => none
  | .word w :: ts =>
    match last, readRepeat w with
    | some item, some n => readItems outer done (some (List.replicate n item).flatten) ts
    | some _, none => none
    | none, _ =>
      match readPlain w with
      | some ops => readItems outer done (some ops) ts
      | none =>
        match ts with
        | .word arg :: rest =>
          match readWithOperand w arg with
          | some ops => readItems outer done (some ops) rest
          | none => none
        | _ => none

/-- The trace a text stands for (R85, R86). -/
def readTrace (text : List Char) : Option Trace := readItems [] [] none (tokens false [] text)

end Sys2Proof.Machine
end

