-- ==== Sys2Proof/Tests/Slice0.lean ====
section
/-! SUPPORT. The model's own tests, each on one step, with expected values from `95_test_vectors.md` (the vector is named
at each); and for every statement with hypotheses a witness: concrete states and operands that meet them together. -/

namespace Sys2Proof.Tests

open Sys2Proof.Machine

/-! ### Helpers -/

/-- S1 of the test vectors: the state after reset and `INIT`. -/
def s1 : State := { State.reset with gie := true, run := true }

/-- S1 in split mode. -/
def split1 : State := s1.withCfg { Config.standard with publishMode := .split }

/-- S1 after a first request: what a conversion result needs. -/
def requested : State := { s1 with aden := true, adstarted := true, adbusy := true, phase := 3 }

/-- A pattern set from its four bytes. -/
def four (a b c d : Byte) : Patterns := { d0 := a, d1 := b, d2 := c, d3 := d }

/-- The outcome is a next state with the property. -/
def nextHas (o : Host.Outcome State Fault Refusal) (p : State → Bool) : Bool :=
  match o with
  | .next t => p t
  | .fault _ => false
  | .refused _ => false

/-- The outcome is a refusal. -/
def isRefused (o : Host.Outcome State Fault Refusal) : Bool :=
  match o with
  | .next _ => false
  | .fault _ => false
  | .refused _ => true

/-- The trace is valid from the state. -/
def valid (p : Trace) (s : State) : Bool := nextHas (runTrace p s) (fun _ => true)

/-- The state a valid trace ends in. -/
def ran (p : Trace) (s : State) : State :=
  match runTrace p s with
  | .next t => t
  | .fault _ => s
  | .refused _ => s

theorem leads_ran {p : Trace} {s : State} (h : valid p s = true) : Leads p s (ran p s) := by
  unfold valid nextHas at h
  unfold Leads ran
  cases e : runTrace p s <;> simp_all

theorem exec_ran {i : Instr} {s : State} (h : valid [i] s = true) : exec i s = .next (ran [i] s) := by
  have l := leads_ran h
  simp only [leads_cons, leads_nil] at l
  exact (exec_next_iff _ _ _).mpr l

/-! ### Decoding: each row's word, written out from the opcode map (R73) -/

theorem test_word_rst : decodeTableWord 12 0x000 = some .rst := by decide
theorem test_word_init : decodeTableWord 12 0x100 = some .init := by decide
theorem test_word_tickin : decodeTableWord 12 0x200 = some .tickin := by decide
theorem test_word_adcdone : decodeTableWord 12 0x34B = some (.adcdone 75) := by decide
theorem test_word_tick : decodeTableWord 12 0x400 = some .tick := by decide
theorem test_word_conv : decodeTableWord 12 0x500 = some .conv := by decide
theorem test_word_pubw : decodeTableWord 12 0x602 = some (.pubw 2) := by decide
theorem test_word_arm : decodeTableWord 12 0x800 = some .arm := by decide
theorem test_word_wait : decodeTableWord 12 0x900 = some .wait := by decide
theorem test_word_trig : decodeTableWord 12 0xA00 = some .trig := by decide
theorem test_word_rdcur : decodeTableWord 12 0xB00 = some .rdcur := by decide
theorem test_word_selpat : decodeTableWord 12 0xC00 = some .selpat := by decide
theorem test_word_wrpat : decodeTableWord 12 0xD00 = some .wrpat := by decide
theorem test_word_seldig : decodeTableWord 12 0xE00 = some .seldig := by decide

/-- T105 to T109: reserved words. -/
theorem test_word_reserved :
    decode 0x700 = .bad .reservedOpcode ∧ decode 0xF00 = .bad .reservedOpcode ∧
    decode 0x201 = .bad .reservedOperand ∧ decode 0x604 = .bad .reservedOperand ∧
    decode 0x6FF = .bad .reservedOperand := by decide

/-- R71: a number that is no 12-bit word offers nothing. -/
theorem test_word_too_wide : decodeTableWord 16 0x1000 = none := by decide

/-! ### Well-formedness -/

/-- R78: `PUBW` does not exist in atomic mode. -/
theorem test_wellFormed_refuses_pubw : Instr.wellFormed Config.standard (.pubw 0) = false := by decide

/-! ### One step of each operation -/

/-- T100 (from T104's start): the registers whose reset value is given. -/
theorem test_rst : nextHas (step ({ s1 with phase := 1, dly := 7, tpend := true, cpend := true }.withFetchWord 12 0x000))
    (fun t => t.phase == 0 && !t.run && !t.gie && !t.tpend && !t.cpend && t.dselN == 0b1111) = true := by decide

/-- T101. -/
theorem test_init : nextHas (step (State.reset.withFetchWord 12 0x100)) (fun t => t == s1) = true := by decide

/-- T102. -/
theorem test_init_twice : isRefused (step (s1.withFetchWord 12 0x100)) = true := by decide

/-- T1. -/
theorem test_tickin : nextHas (step (s1.withFetchWord 12 0x200)) (fun t => t.tpend && t.cur == 0) = true := by decide

/-- T8. -/
theorem test_tickin_before_init : isRefused (step (State.reset.withFetchWord 12 0x200)) = true := by decide

/-- T5: the wrap. -/
theorem test_tick : nextHas (step ({ s1 with tpend := true, cur := 3 }.withFetchWord 12 0x400))
    (fun t => !t.tpend && t.cur == 0) = true := by decide

/-- T73: handlers do not nest. -/
theorem test_tick_in_handler :
    isRefused (step ({ split1 with tpend := true, pubmask := 0b1011 }.withFetchWord 12 0x400)) = true := by decide

/-- T61. -/
theorem test_adcdone : nextHas (step (requested.withFetchWord 12 0x34B))
    (fun t => t.cdata == 0x4B && t.cpend && !t.adbusy && t.adstarted) = true := by decide

/-- T65: one result per trigger under `one_shot`. -/
theorem test_adcdone_one_shot :
    isRefused (step (({ requested with adbusy := false }.withCfg
      { Config.standard with adcModel := .oneShot }).withFetchWord 12 0x314)) = true := by decide

/-- T28: the comparison is unsigned. -/
theorem test_conv : nextHas (step ({ requested with cpend := true, cdata := 128 }.withFetchWord 12 0x500))
    (fun t => !t.cpend && t.pat == four 0xF7 0x38 0x78 0xF7) = true := by decide

/-- T69: in split mode the set is not yet written. -/
theorem test_conv_split :
    nextHas (step ({ split1 with cpend := true, cdata := 0xC8, pat := four 0x7C 0x06 0xF9 0x54 }.withFetchWord 12 0x500))
      (fun t => !t.cpend && t.prow == 2 && t.pubmask == 0b1111 && t.pat == four 0x7C 0x06 0xF9 0x54) = true := by decide

/-- T70: the torn set. -/
theorem test_pubw :
    nextHas (step ({ split1 with prow := 2, pubmask := 0b1111, pat := four 0x7C 0x06 0xF9 0x54 }.withFetchWord 12 0x602))
      (fun t => t.pubmask == 0b1011 && t.pat == four 0x7C 0x06 0x78 0x54) = true := by decide

/-- T75. -/
theorem test_pubw_atomic : isRefused (step ({ s1 with pubmask := 0b1111 }.withFetchWord 12 0x600)) = true := by decide

/-- T40. -/
theorem test_arm : nextHas (step (s1.withFetchWord 12 0x800))
    (fun t => t.aden && t.dly == 20 && t.phase == 1) = true := by decide

/-- T42. -/
theorem test_wait : nextHas (step ({ s1 with phase := 1, dly := 2 }.withFetchWord 12 0x900))
    (fun t => t.dly == 1 && t.phase == 1) = true := by decide

/-- T43: the last unit. -/
theorem test_wait_last : nextHas (step ({ s1 with phase := 1, dly := 1 }.withFetchWord 12 0x900))
    (fun t => t.dly == 0 && t.phase == 2) = true := by decide

/-- T48: a request during a conversion and with a result pending is not suppressed. -/
theorem test_trig : nextHas (step ({ requested with phase := 2, cpend := true }.withFetchWord 12 0xA00))
    (fun t => t.phase == 3 && t.adstarted && t.adbusy && t.cpend && t.adcStarts == 1) = true := by decide

/-- T81: a pending tick has not yet moved the Cursor. -/
theorem test_rdcur : nextHas (step ({ s1 with phase := 3, cur := 2, idx := 1, tpend := true }.withFetchWord 12 0xB00))
    (fun t => t.idx == 2 && t.phase == 4 && t.tpend) = true := by decide

/-- T83: `SELPAT` uses `IDX`, not `CUR`. -/
theorem test_selpat :
    nextHas (step ({ s1 with phase := 4, idx := 0, cur := 1, pat := four 0xF7 0x38 0x78 0xF7 }.withFetchWord 12 0xC00))
      (fun t => t.pbuf == 0xF7 && t.phase == 5) = true := by decide

/-- T84: the select line does not move yet. -/
theorem test_wrpat :
    nextHas (step ({ s1 with phase := 5, pbuf := 0xF9, seg := 0x06, dselN := 0b1101 }.withFetchWord 12 0xD00))
      (fun t => t.seg == 0xF9 && t.phase == 6 && t.dselN == 0b1101) = true := by decide

/-- T89: the live Cursor. -/
theorem test_seldig : nextHas (step ({ s1 with phase := 6, cur := 2, idx := 1 }.withFetchWord 12 0xE00))
    (fun t => t.dselN == 0b1011 && t.phase == 0) = true := by decide

/-- T90: the snapshot. -/
theorem test_seldig_idx :
    nextHas (step (({ s1 with phase := 6, cur := 2, idx := 1 }.withCfg
      { Config.standard with selSrc := .idx }).withFetchWord 12 0xE00)) (fun t => t.dselN == 0b1101) = true := by decide

/-! ### Traces as text (R85, R86), and the ports (R44, R128) -/

theorem test_trace_text :
    readTrace "BOOT # 000 100\nSTART_CYCLE; (ADCDONE 0x4B; CONV) x2\nPUBW 3".toList =
      some ([.rst, .init] ++ startCycleOps ++ [.adcdone 75, .conv, .adcdone 75, .conv, .pubw 3]) := by decide

/-- An operand out of range is no trace (R85). -/
theorem test_trace_text_range : readTrace "ADCDONE 256".toList = none := by decide

/-- P1's width: 114 event words. -/
theorem test_frame_length : (frameProgram 0).length = 114 := by decide

/-- X12, R128: one line low is one position lit. -/
theorem test_shown : shownPair { s1 with seg := 0x06, dselN := 0b1011 } = some (2, 0x06) := by decide

/-- P2: mismatched after `SELDIG` with `CUR = 2`, `IDX = 1`, still so after the next `RDCUR` and `SELPAT`, no longer after
the `WRPAT`. -/
theorem test_mismatch_lasts :
    mismatched false [.seldig] { s1 with phase := 6, cur := 2, idx := 1 } = true ∧
    mismatched true [.rdcur, .selpat] { s1 with phase := 3, cur := 2, idx := 1 } = true ∧
    mismatched true [.rdcur, .selpat, .wrpat] { s1 with phase := 3, cur := 2, idx := 1 } = false := by decide

/-- A `TICK` after a matched display point mismatches nothing; with `SEL_SRC = IDX` no `SELDIG` does. -/
theorem test_mismatch_needs_seldig :
    mismatched false [.tick] { s1 with tpend := true, dselN := 0b1110 } = false ∧
    mismatched false [.seldig, .tick] (({ s1 with phase := 6, cur := 2, idx := 1, tpend := true }.withCfg
      { Config.standard with selSrc := .idx })) = false := by decide

/-- R167: the three contexts. -/
theorem test_contexts : contextOf State.reset = .preInit ∧ contextOf s1 = .mainLoop ∧
    contextOf { split1 with pubmask := 1 } = .handler := by decide

/-- R20: 85 bits. -/
theorem test_width : (Reg.all.map Reg.width).sum = 85 ∧ Reg.all.Nodup := by decide

/-! ### Witnesses: event words -/

theorem witness_EveryOperationHasOneWord : decode 0x34B = .instr (.adcdone 75) := by decide

theorem witness_OpcodeRowsAreDisjoint :
    ∃ r : OpRow, r ∈ opcodeRows ∧ r.hits 0x603 = true ∧ r.build 0x603 = .pubw 3 :=
  ⟨⟨"PUBW", 0x600, 0xFFC, fun w => .pubw (indexField w)⟩, by simp [opcodeRows], by decide, by decide⟩

/-- A word for each of the four forms, two where an operand has two ends, and the forced `PHASE = 7`. -/
theorem witness_ReservedWordsAreRefused :
    (∀ w : EventWord, { s1 with events := [w] }.events = w :: []) ∧
    opField 0x700 = 0x7 ∧ opField 0xF00 = 0xF ∧
    (opField 0x401 ≠ 0x3 ∧ opField 0x401 ≠ 0x6 ∧ argField 0x401 ≠ 0) ∧
    (opField 0xE80 ≠ 0x3 ∧ opField 0xE80 ≠ 0x6 ∧ argField 0xE80 ≠ 0) ∧
    (opField 0x604 = 0x6 ∧ (argField 0x604).extractLsb' 2 6 ≠ 0) ∧
    (opField 0x680 = 0x6 ∧ (argField 0x680).extractLsb' 2 6 ≠ 0) ∧
    ({ s1 with phase := 7 }.phase = 7 ∧ Instr.agent .arm = .seq) ∧
    (Instr.tickin ≠ .rst ∧ ∃ t, exec .tickin { s1 with phase := 7 } = .next t) :=
  ⟨fun _ => rfl, by decide, by decide, by decide, by decide, by decide, by decide, ⟨rfl, rfl⟩, by decide,
    _, exec_ran (by decide)⟩

theorem witness_StepRunsTheOfferedEvent :
    { s1 with events := [0x200, 0x400] }.events = 0x200 :: [0x400] ∧ decode 0x200 = .instr .tickin ∧
    { s1 with events := [0x201] }.events = 0x201 :: [] ∧ decode 0x201 = .bad .reservedOperand ∧ s1.events = [] := by
  decide

theorem witness_OfferedWordsRunAsATrace :
    { s1 with events := [0x200, 0x400, 0x800] }.events = ([.tickin, .tick] : Trace).map encode ++ [0x800] := by decide

/-! ### Witnesses: the fourteen operations -/

theorem witness_RstResetsEveryRegister :
    (∃ t, exec .rst s1 = .next t) ∧ Instr.tickin ≠ .rst ∧ Instr.tickin ≠ .init ∧
    (∃ t, exec .tickin { s1 with aden := true, adstarted := true } = .next t) ∧ s1.gie = true ∧ s1.run = true :=
  ⟨⟨_, rfl⟩, by decide, by decide, ⟨_, exec_ran (by decide)⟩, rfl, rfl⟩

/-- Before and after `INIT`, and a trace after it with a tick and the whole of step (1). -/
theorem witness_InitStartsTheLoop :
    State.reset.run = false ∧ s1.run = true ∧
    (exec .init State.reset = .next s1 ∧ .rst ∉ (.tickin :: startCycleOps : Trace) ∧
      ∃ u, Leads (.tickin :: startCycleOps) s1 u) :=
  ⟨rfl, rfl, rfl, by decide, _, leads_ran (by decide)⟩

theorem witness_TickinSetsThePendingLatch :
    s1.run = true ∧ { s1 with tpend := true }.tpend = true ∧ State.reset.run = false := by decide

/-- A pending tick at the last position. -/
def tickReady : State := { s1 with tpend := true, cur := 3 }

/-- A pending tick that `conv_first` holds back. -/
def tickHeld : State := { tickReady with cpend := true }.withCfg { Config.standard with irqPriority := .convFirst }

theorem witness_TickAdvancesTheCursor :
    (tickReady.gie = true ∧ tickReady.tpend = true ∧ tickReady.pubmask = 0 ∧
      (tickReady.cfg.irqPriority = .convFirst → tickReady.cpend = false)) ∧
    ¬(tickHeld.gie = true ∧ tickHeld.tpend = true ∧ tickHeld.pubmask = 0 ∧
      (tickHeld.cfg.irqPriority = .convFirst → tickHeld.cpend = false)) := by decide

theorem witness_ArmLoadsTheSettlingDelay : s1.run = true ∧ s1.phase = 0 ∧ ¬ State.reset.run = true := by decide

/-- Phase 1 with a count. -/
def waiting (d : BitVec 5) : State := { s1 with phase := 1, dly := d }

/-- The count's two ends, 20 and 1, and the count 0 of the second clause. -/
theorem witness_WaitCountsTheDelayDown :
    ((waiting 20).run = true ∧ (waiting 20).phase = 1 ∧ 1 ≤ (waiting 20).dly) ∧
    ((waiting 1).run = true ∧ (waiting 1).phase = 1 ∧ 1 ≤ (waiting 1).dly) ∧
    ((waiting 0).run = true ∧ (waiting 0).phase = 1) ∧ ¬(s1.run = true ∧ s1.phase = 1) := by decide

theorem witness_TrigRequestsAConversion :
    { requested with phase := 2 }.run = true ∧ { requested with phase := 2 }.phase = 2 ∧ ¬ s1.phase = 2 := by decide

/-- The converter gives one result per request. -/
def oneShot (s : State) : State := s.withCfg { Config.standard with adcModel := .oneShot }

/-- Both converter models, each with a result to come and without. -/
theorem witness_AdcdoneLatchesTheResult :
    ((requested.cfg.adcModel = .free → requested.adstarted = true) ∧
      (requested.cfg.adcModel = .oneShot → requested.adbusy = true)) ∧
    (((oneShot requested).cfg.adcModel = .free → (oneShot requested).adstarted = true) ∧
      ((oneShot requested).cfg.adcModel = .oneShot → (oneShot requested).adbusy = true)) ∧
    (s1.cfg.adcModel = .free ∧ s1.adstarted = false) ∧
    ((oneShot s1).cfg.adcModel = .oneShot ∧ (oneShot s1).adbusy = false) := by decide

/-- A result pending, in atomic mode, in split mode, and held back by a pending tick under `tick_first`. -/
def convReady : State := { requested with cpend := true, cdata := 75 }
def convReadySplit : State := convReady.withCfg { Config.standard with publishMode := .split }
def convHeld : State := { convReady with tpend := true }.withCfg { Config.standard with irqPriority := .tickFirst }

theorem witness_ConvPublishesTheBand :
    (convReady.gie = true ∧ convReady.cpend = true ∧ convReady.pubmask = 0 ∧
      (convReady.cfg.irqPriority = .tickFirst → convReady.tpend = false) ∧ convReady.cfg.publishMode = .atomic) ∧
    (convReadySplit.gie = true ∧ convReadySplit.cpend = true ∧ convReadySplit.pubmask = 0 ∧
      (convReadySplit.cfg.irqPriority = .tickFirst → convReadySplit.tpend = false) ∧
      convReadySplit.cfg.publishMode = .split) ∧
    ¬(convHeld.gie = true ∧ convHeld.cpend = true ∧ convHeld.pubmask = 0 ∧
      (convHeld.cfg.irqPriority = .tickFirst → convHeld.tpend = false)) := by decide

/-- A publish of the High row with the first and the last element still to write, and the same with the unused code. -/
def pubReady : State := { split1 with pubmask := 0b1001, prow := 2 }
def pubUnused : State := { split1 with pubmask := 0b1001, prow := 3 }

/-- Both ends of the operand, the unused row code, an element already written, and atomic mode. -/
theorem witness_PubwWritesOneElement :
    (pubReady.cfg.publishMode = .split ∧ pubReady.pubmask.getLsbD (0 : Digit).toNat = true ∧
      pubReady.pubmask.getLsbD (3 : Digit).toNat = true ∧ pubReady.prow = bandCode .high) ∧
    (pubUnused.cfg.publishMode = .split ∧ pubUnused.pubmask.getLsbD (3 : Digit).toNat = true ∧ pubUnused.prow = 3) ∧
    pubReady.pubmask.getLsbD (2 : Digit).toNat = false ∧ s1.cfg.publishMode = .atomic := by decide

theorem witness_RdcurReadsTheCursor : requested.run = true ∧ requested.phase = 3 ∧ ¬ s1.phase = 3 := by decide

theorem witness_SelpatSelectsThePattern :
    { s1 with phase := 4 }.run = true ∧ { s1 with phase := 4 }.phase = 4 ∧
    (∀ i : Digit, { s1 with phase := 4, idx := i }.idx = i) ∧ ¬ s1.phase = 4 := by decide

theorem witness_WrpatWritesTheSegments :
    { s1 with phase := 5 }.run = true ∧ { s1 with phase := 5 }.phase = 5 ∧ ¬ s1.phase = 5 := by decide

/-- At phase 6 with a Cursor that has moved since step (2). -/
def selReady : State := { s1 with phase := 6, cur := 3, idx := 2 }
def selReadyIdx : State := selReady.withCfg { Config.standard with selSrc := .idx }

/-- Both values of `SEL_SRC`, with the position each selects. -/
theorem witness_SeldigDrivesOneLineLow :
    (selReady.run = true ∧ selReady.phase = 6 ∧ (selReady.cfg.selSrc = .cur → 3 = selReady.cur) ∧
      (selReady.cfg.selSrc = .idx → 3 = selReady.idx)) ∧
    (selReadyIdx.run = true ∧ selReadyIdx.phase = 6 ∧ (selReadyIdx.cfg.selSrc = .cur → 2 = selReadyIdx.cur) ∧
      (selReadyIdx.cfg.selSrc = .idx → 2 = selReadyIdx.idx)) ∧ ¬(s1.run = true ∧ s1.phase = 6) := by decide

/-! ### Witnesses: constants, reset and invariants -/

/-- Each band's two bounds. -/
theorem witness_BandsPartitionTheReadings :
    (0 : Byte).toNat ≤ 50 ∧ (50 : Byte).toNat ≤ 50 ∧ (51 ≤ (51 : Byte).toNat ∧ (51 : Byte).toNat ≤ 100) ∧
    (51 ≤ (100 : Byte).toNat ∧ (100 : Byte).toNat ≤ 100) ∧ 101 ≤ (101 : Byte).toNat ∧ 101 ≤ (255 : Byte).toNat := by
  decide

/-- A state in use: running, with a result published, that offers a tick. -/
def inUse : State := { requested with pat := row .mid, dselN := onecold 1, events := [0x200] }

theorem safe_inUse : SafeState inUse :=
  ⟨⟨by decide, by decide, by decide, rfl, fun _ => rfl, fun _ => rfl, by decide⟩,
    ⟨fun _ => rfl, by decide, fun _ => rfl, fun _ => rfl, by decide, by decide, fun _ => ⟨rfl, rfl⟩⟩,
    .inr ⟨.mid, rfl⟩, .inr ⟨1, rfl⟩⟩

theorem witness_StepKeepsTheInvariant : SafeState inUse ∧ ∃ t, step inUse = .next t := ⟨safe_inUse, _, rfl⟩

/-- From reset to phase 1. -/
def toPhaseOne : Trace := [.rst, .init, .arm]

/-- From reset to the first result. -/
def toFirstResult : Trace := .init :: startCycleOps ++ [.adcdone 75]

/-- In phase 1, and with a result pending. -/
theorem witness_ReachableStatesAreSafe :
    (Leads toPhaseOne (State.afterReset Config.standard ResetDraw.zero) (ran toPhaseOne State.reset) ∧
      (ran toPhaseOne State.reset).phase = 1) ∧
    (Leads toFirstResult (State.afterReset Config.standard ResetDraw.zero) (ran toFirstResult State.reset) ∧
      (ran toFirstResult State.reset).cpend = true) :=
  ⟨⟨leads_ran (by decide), by decide⟩, leads_ran (by decide), by decide⟩

theorem witness_AtomicSetIsNeverTorn :
    requested.cfg.publishMode = .atomic ∧ (∃ t, exec .conv { requested with cpend := true } = .next t) ∧
    (.rst ∉ (Pseudo.sample 200).expand ∧ Leads (Pseudo.sample 200).expand requested
      (ran (Pseudo.sample 200).expand requested) ∧ .conv ∈ (Pseudo.sample 200).expand) ∧
    (Leads [.tickin] requested (ran [.tickin] requested) ∧ .conv ∉ ([.tickin] : Trace)) :=
  ⟨rfl, ⟨_, exec_ran (by decide)⟩, ⟨by decide, leads_ran (by decide), by decide⟩, leads_ran (by decide), by decide⟩

/-- A split publish under way from S1 in split mode: two of four elements written. -/
def tornTrace : Trace := startCycleOps ++ [.adcdone 200, .conv, .pubw 2, .pubw 0]

theorem witness_SplitElementsComeFromTheTable :
    split1.cfg.publishMode = .split ∧ .rst ∉ tornTrace ∧ Leads tornTrace split1 (ran tornTrace split1) ∧
    .pubw 2 ∈ tornTrace ∧ .pubw 1 ∉ tornTrace :=
  ⟨rfl, by decide, leads_ran (by decide), by decide, by decide⟩

theorem witness_OnePositionStaysLit :
    .rst ∉ iterationOps ∧ .seldig ∈ iterationOps ∧ Leads iterationOps s1 (ran iterationOps s1) :=
  ⟨by decide, by decide, leads_ran (by decide)⟩

/-- From S1 to phase 4 with a row published, in atomic mode. -/
def toSelect : Trace := startCycleOps ++ [.adcdone 75, .conv, .rdcur]

/-- The same in split mode, with two of four elements written, the one at the Cursor among them. -/
def toSelectSplit : Trace := tornTrace ++ [.rdcur]

/-- Both modes, with the element at `IDX` published before it is selected. -/
theorem witness_ShownBytesComeFromTheTable :
    (Leads toSelect s1 (ran toSelect s1) ∧ WritesElement s1.cfg.publishMode 0 toSelect ∧
      Leads (.selpat :: [.tickin] ++ .wrpat :: [.seldig]) (ran toSelect s1)
        (ran [.selpat, .tickin, .wrpat, .seldig] (ran toSelect s1))) ∧
    (Leads toSelectSplit split1 (ran toSelectSplit split1) ∧
      (ran toSelectSplit split1).idx = 0 ∧ WritesElement split1.cfg.publishMode 0 toSelectSplit ∧
      Leads (.selpat :: [.pubw 1]) (ran toSelectSplit split1) (ran [.selpat, .pubw 1] (ran toSelectSplit split1))) :=
  ⟨⟨leads_ran (by decide), (by decide : Instr.conv ∈ toSelect), leads_ran (by decide)⟩,
    leads_ran (by decide), by decide, (by decide : Instr.pubw 0 ∈ toSelectSplit), leads_ran (by decide)⟩

/-! ### Witnesses: the Digit Scheduler and the interrupts -/

/-- Two ticks, each serviced. -/
def twoTicks : Trace := [.tickin, .tick, .tickin, .tick]

theorem witness_CursorCountsTheTicks : .rst ∉ twoTicks ∧ Leads twoTicks s1 (ran twoTicks s1) :=
  ⟨by decide, leads_ran (by decide)⟩

theorem twoTicks_cadence : CadenceTick twoTicks := by
  intro a b c h
  rcases a with _ | ⟨x, _ | ⟨y, _ | ⟨z, _ | ⟨u, a⟩⟩⟩⟩ <;> rcases b with _ | ⟨p, _ | ⟨q, b⟩⟩ <;>
    simp_all [twoTicks]

/-- A trace that loses a tick, and one under the cadence premise that ends with nothing pending. -/
theorem witness_TicksAreServicedLostOrPending :
    (.rst ∉ ([.tickin, .tickin] : Trace) ∧ Leads [.tickin, .tickin] s1 (ran [.tickin, .tickin] s1)) ∧
    (.rst ∉ twoTicks ∧ s1.tpend = false ∧ CadenceTick twoTicks ∧ Leads twoTicks s1 (ran twoTicks s1) ∧
      (ran twoTicks s1).tpend = false) :=
  ⟨⟨by decide, leads_ran (by decide)⟩, by decide, rfl, twoTicks_cadence, leads_ran (by decide), by decide⟩

/-- T120's start. -/
def bothPending : State := { requested with tpend := true, cpend := true, cdata := 0xC8, pat := row .low }

theorem witness_ArbitrationAndCommutation :
    (bothPending.gie = true ∧ bothPending.pubmask = 0 ∧ bothPending.tpend = true ∧ bothPending.cpend = true) ∧
    (∀ p, (bothPending.withCfg { Config.standard with irqPriority := p }).cfg.irqPriority = p) ∧
    (bothPending.cfg.publishMode = .atomic ∧ enabled .tick bothPending = true ∧ enabled .conv bothPending = true) :=
  ⟨by decide, fun _ => rfl, by decide⟩

theorem witness_HandlersNeverNest :
    pubReady.pubmask ≠ 0 ∧ pubReady.run = true ∧
    ({ pubReady with adstarted := true, adbusy := true }.pubmask ≠ 0 ∧
      { pubReady with adstarted := true, adbusy := true }.adstarted = true ∧
      { pubReady with adstarted := true, adbusy := true }.adbusy = true) := by decide

theorem witness_HandlersLeaveTheSequencerAlone :
    (∃ t, exec .tick bothPending = .next t) ∧ (∃ t, exec .conv bothPending = .next t) ∧
    (∃ t, exec (.pubw 3) pubReady = .next t) :=
  ⟨⟨_, exec_ran (by decide)⟩, ⟨_, exec_ran (by decide)⟩, _, exec_ran (by decide)⟩

theorem witness_PendingLatchesStaySet :
    (∃ t, exec .rdcur bothPending = .next t) ∧ Instr.rdcur ≠ .rst ∧ Instr.rdcur ≠ .tick ∧ Instr.rdcur ≠ .conv ∧
    bothPending.tpend = true ∧ bothPending.cpend = true ∧ pubReady.cfg.publishMode = .split ∧ pubReady.prow ≠ 3 ∧
    stillToWrite pubReady.pubmask 3 = true :=
  ⟨⟨_, exec_ran (by decide)⟩, by decide⟩

/-! ### Witnesses: who reads and writes what -/

theorem witness_OnlyTheOwnerWrites :
    (∃ t, exec .conv bothPending = .next t) ∧ Reg.cur ∉ writes .atomic .conv ∧ Instr.conv ≠ .rst ∧
    (Instr.agent .conv = .irq ∧ Instr.agent .selpat = .seq ∧ Reg.pat 2 ∈ writes .atomic .conv) ∧
    Reg.pubmask ∈ writes .split (.pubw 1) :=
  ⟨⟨_, exec_ran (by decide)⟩, by decide⟩

/-- Two states that differ in a register `TICK` does not read and in the number of resets, and two for `RST`. -/
theorem witness_OperationsReadOnlyTheirRegisters :
    (bothPending.cfg = { bothPending with seg := 0xFF, resetCount := 1 }.cfg ∧
      (Instr.tick = .rst → bothPending.resetCount = { bothPending with seg := 0xFF, resetCount := 1 }.resetCount) ∧
      (∀ r ∈ reads bothPending.cfg.irqPriority .tick,
        regValue bothPending r = regValue { bothPending with seg := 0xFF, resetCount := 1 } r) ∧
      ∃ t, exec .tick bothPending = .next t) ∧
    (bothPending.cfg = s1.cfg ∧ (Instr.rst = .rst → bothPending.resetCount = s1.resetCount) ∧
      (∀ r ∈ reads bothPending.cfg.irqPriority .rst, regValue bothPending r = regValue s1 r) ∧
      ∃ t, exec .rst bothPending = .next t) :=
  ⟨⟨rfl, by decide, by decide, _, exec_ran (by decide)⟩, rfl, fun _ => rfl, by decide, _, rfl⟩

/-! ### Witnesses: the sequencer -/

theorem witness_OneSequencerWordIsEnabled :
    s1.run = true ∧ s1.phase ≠ 7 ∧ BitVec.getLsbD (0x800 : EventWord) 11 = true ∧
    BitVec.getLsbD (0xF00 : EventWord) 11 = true ∧ { requested with phase := 6 }.phase ≠ 7 ∧
    (Instr.isSeq .rdcur = true ∧ ∃ t, exec .rdcur requested = .next t) :=
  ⟨rfl, by decide, by decide, by decide, by decide, rfl, _, exec_ran (by decide)⟩

theorem witness_SequencerIsNeverStuck :
    s1.run = true ∧ s1.phase ≠ 7 ∧ (∃ t, exec .arm s1 = .next t) ∧ Instr.arm ≠ .rst :=
  ⟨rfl, by decide, ⟨_, exec_ran (by decide)⟩, by decide⟩

theorem witness_OneIterationRuns : s1.run = true ∧ s1.phase = 0 := by decide

/-- One iteration with a tick in it, and the beginning of the next. -/
def oneAndABit : Trace := startCycleOps ++ [.rdcur, .tickin, .selpat, .tick, .wrpat, .seldig, .arm, .wait]

theorem witness_SequencerFollowsTheFixedLoop :
    .rst ∉ oneAndABit ∧ s1.phase = 0 ∧ Leads oneAndABit s1 (ran oneAndABit s1) :=
  ⟨by decide, rfl, leads_ran (by decide)⟩

/-- What stands between two `TRIG`, with a tick on the way. -/
def betweenTrigs : Trace := showOps ++ [.tickin, .tick, .arm] ++ List.replicate 20 .wait

/-- What stands between an `ARM` and its `TRIG`, with a tick on the way. -/
def betweenArmAndTrig : Trace := .tickin :: List.replicate 20 .wait

/-- What stands between two `SELDIG`, with a tick on the way. -/
def betweenSeldigs : Trace := startCycleOps ++ [.rdcur, .tickin, .selpat, .wrpat]

theorem witness_CountsBetweenPulsesAndDisplayPoints :
    (.rst ∉ betweenTrigs ∧ .trig ∉ betweenTrigs ∧
      ∃ t, Leads (.trig :: betweenTrigs ++ [.trig]) { requested with phase := 2 } t) ∧
    (.rst ∉ betweenArmAndTrig ∧ .trig ∉ betweenArmAndTrig ∧
      ∃ t, Leads (.arm :: betweenArmAndTrig ++ [.trig]) s1 t) ∧
    (.rst ∉ betweenSeldigs ∧ .seldig ∉ betweenSeldigs ∧
      ∃ t, Leads (.seldig :: betweenSeldigs ++ [.seldig]) { requested with phase := 6 } t) :=
  ⟨⟨by decide, by decide, _, leads_ran (by decide)⟩, ⟨by decide, by decide, _, leads_ran (by decide)⟩,
    by decide, by decide, _, leads_ran (by decide)⟩

theorem witness_FirstResultFollowsTheFirstTrigger :
    .rst ∉ (.init :: startCycleOps : Trace) ∧
    ∃ t, Leads (.init :: startCycleOps ++ [.adcdone 75]) (State.afterReset Config.standard ResetDraw.zero) t :=
  ⟨by decide, _, leads_ran (by decide)⟩

/-! ### Witnesses: what the display shows -/

theorem othersOnly_of {p : Trace} (h : p.all (fun i => i.isSeq == false && i != .rst) = true) : OthersOnly p := by
  intro i hi
  simpa using List.all_eq_true.mp h i hi

/-- From a display point to just before the next iteration's `WRPAT`, with a tick on the way. -/
def beforeWrpat : Trace := startCycleOps ++ [.tickin, .tick, .rdcur, .selpat]

/-- P2's race: a tick inside the display steps; and a span with no tick. -/
theorem witness_CursorRaceDecidesTheSelectedLine :
    OthersOnly [.tickin] ∧ OthersOnly [.tick] ∧ OthersOnly [] ∧
    Leads (.rdcur :: [.tickin]) requested (ran [.rdcur, .tickin] requested) ∧
    Leads (.selpat :: [.tick] ++ .wrpat :: [] ++ [.seldig]) (ran [.rdcur, .tickin] requested)
      (ran [.selpat, .tick, .wrpat, .seldig] (ran [.rdcur, .tickin] requested)) ∧
    requested.cfg.selSrc = .cur ∧
    Leads showOps (requested.withCfg { Config.standard with selSrc := .idx })
      (ran showOps (requested.withCfg { Config.standard with selSrc := .idx })) :=
  ⟨othersOnly_of rfl, othersOnly_of rfl, othersOnly_of rfl, leads_ran (by decide), leads_ran (by decide), rfl,
    leads_ran (by decide)⟩

/-- P2's second display point and a trace on to just before the next `WRPAT`, with a tick in it; that `WRPAT`; and a
`SELDIG` with `SEL_SRC = IDX`. -/
theorem witness_MismatchLastsUntilThePatternWrite :
    ((∃ t, exec .seldig selReady = .next t ∧ ∃ u, Leads beforeWrpat t u) ∧ .wrpat ∉ beforeWrpat ∧ .rst ∉ beforeWrpat) ∧
    (∃ t, Leads ([.seldig] ++ beforeWrpat ++ [.wrpat]) selReady t) ∧
    (selReadyIdx.cfg.selSrc = .idx ∧ ∃ t, Leads [.seldig, .tickin, .tick] selReadyIdx t) :=
  ⟨⟨⟨_, exec_ran (by decide), _, leads_ran (by decide)⟩, by decide, by decide⟩, ⟨_, leads_ran (by decide)⟩, rfl,
    _, leads_ran (by decide)⟩

/-- T91: a publish after `SELPAT`. -/
theorem witness_StalePatternIsWritten :
    OthersOnly [.conv] ∧ Leads (.selpat :: [.conv] ++ [.wrpat]) { bothPending with phase := 4 }
      (ran [.selpat, .conv, .wrpat] { bothPending with phase := 4 }) :=
  ⟨othersOnly_of rfl, leads_ran (by decide)⟩

theorem witness_ShownPairIsTheRowsByte :
    OthersOnly [] ∧ .tick ∉ displaySpan [] [] [] ∧
    Leads (displaySpan [] [] []) { requested with pat := row .mid }
      (ran (displaySpan [] [] []) { requested with pat := row .mid }) ∧
    (∀ p q u, displaySpan [] [] [] = p ++ q → Leads p { requested with pat := row .mid } u → u.pat = row .mid) := by
  refine ⟨othersOnly_of rfl, by decide, leads_ran (by decide), fun p q u e h => ?_⟩
  refine leads_induction (P := fun v => v.pat = row .mid) h rfl (fun i hi v hv _ => ?_)
  have hm : i ∈ displaySpan [] [] [] := by rw [e]; simp [hi]
  have hs : i = .rdcur ∨ i = .selpat ∨ i = .wrpat ∨ i = .seldig := by simpa [displaySpan] using hm
  rw [effect_pat v (by rintro rfl; simp at hs) (by rintro rfl; simp at hs) (by rintro k rfl; simp at hs)]
  exact hv

theorem witness_FrameShowsTheReadingsRow :
    State.reset.cfg.publishMode = .atomic ∧ State.reset.cfg.curReset = 0 := by decide

/-- Between two `TICK` at the ends of a trace stands what stands between them. -/
theorem between_ticks {p a b c : Trace} (hp : .tick ∉ p)
    (h : .tick :: p ++ [.tick] = a ++ .tick :: b ++ .tick :: c) : b = p := by
  cases a with
  | nil =>
    simp only [List.nil_append, List.cons_append, List.cons.injEq, true_and] at h
    rcases List.append_eq_append_iff.mp h with ⟨x, hx, hy⟩ | ⟨x, hx, hy⟩
    · cases x with
      | nil => simpa using hx
      | cons y x => simp at hy
    · cases x with
      | nil => simpa using hx.symm
      | cons y x =>
        simp only [List.cons_append, List.cons.injEq] at hy
        rw [hx, ← hy.1] at hp; simp at hp
  | cons y a =>
    simp only [List.cons_append, List.append_assoc, List.cons.injEq] at h
    rcases List.append_eq_append_iff.mp h.2 with ⟨x, hx, hy⟩ | ⟨x, hx, hy⟩
    · have := congrArg List.length hy
      cases x <;> simp at this
    · cases x with
      | nil => simp at hy
      | cons z x =>
        simp only [List.cons_append, List.cons.injEq] at hy
        rw [hx, ← hy.1] at hp; simp at hp

/-- A whole iteration and the next tick. -/
def shownBetween : Trace := iterationOps ++ [.tickin]

theorem witness_EveryPositionIsShownUnderCadence :
    CadenceShow (.tick :: shownBetween ++ [.tick]) ∧ .tick ∉ shownBetween ∧ .rst ∉ shownBetween ∧
    ∃ t, Leads (.tick :: shownBetween ++ [.tick]) { s1 with tpend := true } t := by
  refine ⟨fun a b c h => ?_, by decide, by decide, _, leads_ran (by decide)⟩
  rw [between_ticks (by decide) h]
  exact ⟨startCycleOps, [], by decide⟩

/-! ### Witnesses: publishing -/

/-- A split-mode state that can take a result. -/
def requestedSplit : State := requested.withCfg { Config.standard with publishMode := .split }

theorem witness_PublishedSetIsTheBandsRow :
    (requested.cfg.publishMode = .atomic ∧ ∃ t, Leads (Pseudo.sample 75).expand requested t) ∧
    (requestedSplit.cfg.publishMode = .split ∧ List.Perm [2, 0, 3, 1] ([0, 1, 2, 3] : List Digit) ∧
      ∃ t, Leads (Pseudo.sample4 75 [2, 0, 3, 1]).expand requestedSplit t) ∧
    (requestedSplit.gie = true ∧ requestedSplit.adstarted = true ∧ requestedSplit.adbusy = true ∧
      requestedSplit.pubmask = 0 ∧ requestedSplit.tpend = false) :=
  ⟨⟨rfl, _, leads_ran (by decide)⟩, ⟨rfl, by decide, _, leads_ran (by decide)⟩, by decide⟩

/-- The four element writes in another order, with a tick on the way. -/
def fourWrites : Trace := [.pubw 2, .tickin, .pubw 0, .pubw 3, .pubw 1]

theorem witness_SplitPublishEndsInTheWholeRow :
    split1.cfg.publishMode = .split ∧ .rst ∉ fourWrites ∧ .conv ∉ fourWrites ∧
    Leads (.conv :: fourWrites) { split1 with cpend := true, cdata := 200 }
      (ran (.conv :: fourWrites) { split1 with cpend := true, cdata := 200 }) ∧
    (ran (.conv :: fourWrites) { split1 with cpend := true, cdata := 200 }).pubmask = 0 :=
  ⟨rfl, by decide, by decide, leads_ran (by decide), by decide⟩

/-- T64's overrun in both modes, with a tick between the results. -/
theorem witness_OverrunClassifiesTheNewestResult :
    (.rst ∉ ([.tickin] : Trace) ∧ .conv ∉ ([.tickin] : Trace) ∧ (∀ x, .adcdone x ∉ ([] : Trace))) ∧
    requested.cfg.publishMode = .atomic ∧ split1.cfg.publishMode = .split ∧
    (∃ t, Leads (.adcdone 0 :: [.tickin] ++ .adcdone 200 :: [] ++ [.conv]) requested t) ∧
    (∃ t, Leads (.adcdone 0 :: [.tickin] ++ .adcdone 200 :: [] ++ [.conv]) { split1 with adstarted := true } t) :=
  ⟨⟨by decide, by decide, by simp⟩, rfl, rfl, ⟨_, leads_ran (by decide)⟩, _, leads_ran (by decide)⟩

/-! ### Witnesses: how the parameters compare -/

/-- S1 under other parameters. -/
def s1With (c : Config) : State := s1.withCfg c

theorem witness_OneShotTracesAreFreeTraces :
    (s1With { Config.standard with adcModel := .oneShot }).cfg.adcModel = .oneShot ∧ s1.adbusy = false ∧
    Leads (startCycleOps ++ [.adcdone 10]) (s1With { Config.standard with adcModel := .oneShot })
      (ran (startCycleOps ++ [.adcdone 10]) (s1With { Config.standard with adcModel := .oneShot })) :=
  ⟨rfl, rfl, leads_ran (by decide)⟩

/-- T13: under `conv_first` both handlers run, in that order. -/
theorem witness_FixedPriorityTracesAreOpenTraces :
    Leads [.conv, .tick] (bothPending.withCfg { Config.standard with irqPriority := .convFirst })
      (ran [.conv, .tick] (bothPending.withCfg { Config.standard with irqPriority := .convFirst })) :=
  leads_ran (by decide)

theorem witness_AtomicRunsAreSplitRuns :
    bothPending.cfg.publishMode = .atomic ∧ bothPending.pubmask = 0 ∧
    Leads [.conv, .tick, .rdcur] bothPending (ran [.conv, .tick, .rdcur] bothPending) ∧
    Config.standard.publishMode = .atomic ∧
    Leads toFirstResult (State.afterReset Config.standard ResetDraw.zero) (ran toFirstResult State.reset) :=
  ⟨rfl, rfl, leads_ran (by decide), rfl, leads_ran (by decide)⟩

/-- A tick before the display steps, none inside them. -/
theorem witness_SelectSourcesAgreeWithoutTicks :
    s1.phase = 0 ∧ s1.cfg.selSrc = .cur ∧ NoTickInShow ([.tickin] ++ iterationOps) ∧
    Leads ([.tickin] ++ iterationOps) s1 (ran ([.tickin] ++ iterationOps) s1) := by
  refine ⟨rfl, rfl, fun a b c h _ _ ht => ?_, leads_ran (by decide)⟩
  have hm : .tick ∈ ([.tickin] ++ iterationOps : Trace) := by rw [h]; simp [ht]
  exact absurd hm (by decide)

/-! ### Witnesses: unending runs -/

/-- A run in which the timer signals and the handler services, in turn. -/
def tickStates : Nat → State
  | 0 => inUse
  | n + 1 => effect (if (tickStates n).tpend then .tick else .tickin) (tickStates n)

theorem tickStates_keeps (n : Nat) : (tickStates n).cfg = inUse.cfg ∧ (tickStates n).gie = true ∧
    (tickStates n).run = true ∧ (tickStates n).pubmask = 0#4 ∧ (tickStates n).cpend = false := by
  induction n with
  | zero => exact ⟨rfl, rfl, rfl, rfl, rfl⟩
  | succ n ih => cases h : (tickStates n).tpend <;> simp [tickStates, h, effect, ih]

/-- That run. -/
def tickRun : Run where
  ops n := if (tickStates n).tpend then .tick else .tickin
  states := tickStates
  steps n := by
    obtain ⟨hc, hg, hr, hm, hp⟩ := tickStates_keeps n
    refine exec_of_transits ?_
    cases h : (tickStates n).tpend with
    | false => simpa [transits, enabled, tickinEnabled] using hr
    | true => simp [transits, enabled, tickHandler_iff, h, hg, hm, hp]

theorem tickRun_fair : tickRun.IrqFair := by
  intro n i hi he
  obtain ⟨hc, hg, hr, hm, hp⟩ := tickStates_keeps n
  have h := he n (Nat.le_refl n)
  cases i <;> simp [Instr.agent] at hi
  case tick =>
    refine ⟨n, Nat.le_refl n, ?_⟩
    have ht := ((tickHandler_iff _).mp h).2.1
    simp only [tickRun] at ht ⊢
    simp [ht]
  case conv =>
    have hcp := ((convHandler_iff _).mp h).2.1
    simp only [tickRun, hp] at hcp; cases hcp
  case pubw k =>
    have hz := ((pubwEnabled_iff _ _).mp h).2
    simp only [tickRun, hm] at hz; simp at hz

theorem tickRun_no_reset (m : Nat) : tickRun.ops m ≠ .rst := by
  simp only [tickRun]; split <;> simp

/-- The state of the run where a tick is pending. -/
theorem safe_pending : SafeState (tickRun.states 1) :=
  ⟨⟨by decide, by decide, by decide, rfl, fun _ => rfl, fun _ => rfl, by decide⟩,
    ⟨fun _ => rfl, fun _ => rfl, fun _ => rfl, fun _ => rfl, by decide, by decide, fun _ => ⟨rfl, rfl⟩⟩,
    .inr ⟨.mid, rfl⟩, .inr ⟨1, rfl⟩⟩

theorem witness_PendingTickIsServiced :
    tickRun.IrqFair ∧ (∀ m, tickRun.ops m ≠ .rst) ∧ (tickRun.states 1).cfg.publishMode = .atomic ∧
    (tickRun.states 1).cfg.irqPriority ≠ .convFirst ∧ SafeState (tickRun.states 1) ∧
    (tickRun.states 1).tpend = true :=
  ⟨tickRun_fair, tickRun_no_reset, rfl, by decide, safe_pending, rfl⟩

/-- The sequencer's operation at a phase (R25, R74). -/
def seqOp (k : Phase) : Instr :=
  if k = 0 then .arm else if k = 1 then .wait else if k = 2 then .trig else if k = 3 then .rdcur
  else if k = 4 then .selpat else if k = 5 then .wrpat else .seldig

/-- A run of the sequencer alone. -/
def loopStates : Nat → State
  | 0 => inUse
  | n + 1 => effect (seqOp (loopStates n).phase) (loopStates n)

theorem seqOp_step (s : State) (h : s.run = true) (h7 : s.phase ≠ 7#3) :
    transits (seqOp s.phase) s = true ∧ (effect (seqOp s.phase) s).run = true ∧
    (effect (seqOp s.phase) s).phase ≠ 7#3 := by
  have phases : ∀ k : Phase, k ≠ 7#3 → k = 0#3 ∨ k = 1#3 ∨ k = 2#3 ∨ k = 3#3 ∨ k = 4#3 ∨ k = 5#3 ∨ k = 6#3 := by
    decide
  rcases phases _ h7 with e | e | e | e | e | e | e <;>
    simp [e, seqOp, transits, enabled, seqAt, h, effect]
  split <;> decide

theorem loopStates_keeps (n : Nat) : (loopStates n).run = true ∧ (loopStates n).phase ≠ 7#3 := by
  induction n with
  | zero => exact ⟨rfl, by decide⟩
  | succ n ih => exact (seqOp_step _ ih.1 ih.2).2

/-- That run. -/
def loopRun : Run where
  ops n := seqOp (loopStates n).phase
  states := loopStates
  steps n := exec_of_transits (seqOp_step _ (loopStates_keeps n).1 (loopStates_keeps n).2).1

theorem seqOp_isSeq (k : Phase) : (seqOp k).isSeq = true := by revert k; decide

theorem witness_DisplayPointsRecur :
    loopRun.SeqFair ∧ (∀ m, loopRun.ops m ≠ .rst) ∧ (loopRun.states 0).run = true ∧ SafeState (loopRun.states 0) :=
  ⟨fun n _ => ⟨n, Nat.le_refl n, .inl (seqOp_isSeq _)⟩,
    fun m h => by have := seqOp_isSeq (loopStates m).phase; rw [show seqOp (loopStates m).phase = .rst from h] at this
                  simp [Instr.isSeq, Instr.agent] at this,
    rfl, safe_inUse⟩

end Sys2Proof.Tests
end

section
/-! SUPPORT. The word of an operation decodes to it; what a step does with the word offered first; and, from these, a
run over the words of a trace as that trace. -/

namespace Sys2Proof

/-- The word of an operation, with every operand, decodes to that operation (R71 to R75). -/
@[simp] theorem decode_encode (i : Instr) : decode (encode i) = .instr i := by
  cases i with
  | adcdone v => revert v; decide
  | pubw k => revert k; decide
  | _ => rfl

namespace Machine

/-! ### One step on the word offered first -/

/-- The word offered first names an operation: the step runs it on the state without that word (R10). -/
theorem step_of_decode_instr {s : State} {w : EventWord} {rest : List EventWord} {i : Instr}
    (hs : s.events = w :: rest) (hw : decode w = .instr i) : step s = exec i { s with events := rest } := by
  simp [step, fetchEvent_cons hs, hw]

/-- The word offered first names no operation: the step refuses it (R76, R77, R79). -/
theorem step_of_decode_bad {s : State} {w : EventWord} {rest : List EventWord} {e : DecodeError}
    (hs : s.events = w :: rest) (hw : decode w = .bad e) : step s = .refused (.namesNoOperation w) := by
  simp [step, fetchEvent_cons hs, hw]

/-- No word is offered: the step refuses (log entry 2). -/
theorem step_of_no_events {s : State} (hs : s.events = []) : step s = .refused .noEvent := by
  simp [step, fetchEvent_nil hs]

/-- Settles O6: one lemma above per outcome of fetching and decoding. -/
theorem stepRunsTheOfferedEvent : Obligations.StepRunsTheOfferedEvent := fun _ =>
  ⟨fun _ _ _ => step_of_decode_instr, fun _ _ _ => step_of_decode_bad, step_of_no_events⟩

/-! ### Operations and the queue -/

@[simp] theorem refusalOf_setEvents (i : Instr) (s : State) (l : List EventWord) :
    refusalOf i { s with events := l } = refusalOf i s := by
  simp [refusalOf]

/-- All of `exec` on a state with another queue: the same outcome, and the queue stays as it was. -/
theorem exec_setEvents (i : Instr) (s : State) (l : List EventWord) :
    exec i { s with events := l } =
      if transits i s then .next { effect i s with events := l } else .refused (refusalOf i s) := by
  rw [exec_eq, transits_setEvents, effect_setEvents, refusalOf_setEvents]

/-! ### A trace offered as words -/

/-- A run over the words of a trace is the trace, run on the state with what stands after those words in the queue: by
induction over the trace, for every state, because each operation leaves the rest of the queue alone. -/
theorem run_offered_trace (t : Trace) (s : State) (rest : List EventWord)
    (hs : s.events = t.map encode ++ rest) :
    Host.Core.run core t.length s = runTrace t { s with events := rest } := by
  induction t generalizing s with
  | nil =>
    have hrest : s.events = rest := hs
    subst hrest
    rfl
  | cons i t ih =>
    have hstep : core.step s = exec i { s with events := t.map encode ++ rest } :=
      step_of_decode_instr hs (decode_encode i)
    simp only [List.length_cons, Host.Core.run, runTrace, hstep, exec_setEvents]
    cases transits i s with
    | true => exact ih { effect i s with events := t.map encode ++ rest } rfl
    | false => rfl

/-- Settles O7: the run over the offered words, by induction over the trace. -/
theorem offeredWordsRunAsATrace : Obligations.OfferedWordsRunAsATrace := run_offered_trace

end Machine
end Sys2Proof
end

section
/-! SUPPORT. What one operation can do to the pattern set: the atomic latch of a row, one element of a split publish, or
nothing (R61, R105, R111). -/

namespace Sys2Proof.Machine

/-! ### What the conversion handler writes -/

/-- `CONV` in atomic mode latches the whole row and acknowledges its source (R105). -/
theorem effect_conv_atomic {s : State} (h : s.cfg.publishMode = .atomic) :
    effect .conv s = { s with cpend := false, pat := row (bandOf s.cdata) } :=
  publish_atomic (s := enterHandler .conv s) _ h

/-- `CONV` in split mode begins the publish and acknowledges its source; it writes no pattern (R105). -/
theorem effect_conv_split {s : State} (h : s.cfg.publishMode = .split) :
    effect .conv s = { s with cpend := false, prow := bandCode (bandOf s.cdata), pubmask := 15#4 } :=
  publish_split (s := enterHandler .conv s) _ h

/-! ### What one operation can do to the pattern set -/

/-- All that can happen to the pattern set but for a reset: nothing, the atomic latch of a row, or one element of a
split publish (R22, R61). -/
theorem effect_pat_cases {i : Instr} {s : State} (hr : i ≠ .rst) (ht : transits i s = true) :
    (effect i s).pat = s.pat ∨
    (s.cfg.publishMode = .atomic ∧ i = .conv ∧ ∃ b, (effect i s).pat = row b) ∨
    (s.cfg.publishMode = .split ∧ ∃ k b, i = .pubw k ∧ (effect i s).pat = patWrite s.pat k (rowRead b k)) := by
  cases i with
  | rst => exact absurd rfl hr
  | conv =>
    cases hm : s.cfg.publishMode with
    | atomic => exact .inr (.inl ⟨rfl, rfl, _, by rw [effect_conv_atomic hm]⟩)
    | split => exact .inl (by rw [effect_conv_split hm])
  | pubw k =>
    obtain ⟨hm, -⟩ := (pubwEnabled_iff k s).mp (enabled_of_transits ht)
    exact .inr (.inr ⟨hm, k, _, rfl, rfl⟩)
  | _ => exact .inl rfl

/-- Element `k` of the pattern set is that position's byte of some row. -/
def FromTable (k : Digit) (s : State) : Prop := ∃ b, patRead s.pat k = rowRead b k

/-- One operation other than a reset leaves an element alone or makes it a row's byte. -/
theorem effect_patRead_cases {i : Instr} {s : State} (hr : i ≠ .rst) (ht : transits i s = true) (k : Digit) :
    patRead (effect i s).pat k = patRead s.pat k ∨ FromTable k (effect i s) := by
  obtain e | ⟨-, -, b, e⟩ | ⟨-, j, b, -, e⟩ := effect_pat_cases hr ht
  · exact .inl (by rw [e])
  · exact .inr ⟨b, by rw [e]; rfl⟩
  · by_cases hk : k = j
    · subst hk; exact .inr ⟨b, by rw [e, patRead_patWrite_self]⟩
    · exact .inl (by rw [e, patRead_patWrite_ne _ _ hk])

/-- In split mode only `PUBW k` writes element `k` (R111). -/
theorem effect_patRead_of_ne_pubw {i : Instr} {s : State} {k : Digit} (hm : s.cfg.publishMode = .split)
    (hr : i ≠ .rst) (hk : i ≠ .pubw k) (ht : transits i s = true) :
    patRead (effect i s).pat k = patRead s.pat k := by
  obtain e | ⟨ha, -⟩ | ⟨-, j, b, rfl, e⟩ := effect_pat_cases hr ht
  · rw [e]
  · simp [hm] at ha
  · rw [e, patRead_patWrite_ne]
    rintro rfl
    exact hk rfl

theorem fromTable_effect {i : Instr} {s : State} {k : Digit} (h : FromTable k s) (hr : i ≠ .rst)
    (ht : transits i s = true) : FromTable k (effect i s) := by
  obtain e | hk := effect_patRead_cases hr ht k
  · obtain ⟨b, hb⟩ := h
    exact ⟨b, e.trans hb⟩
  · exact hk

theorem fromTable_effect_pubw (k : Digit) (s : State) : FromTable k (effect (.pubw k) s) :=
  ⟨_, patRead_patWrite_self _ _ _⟩

theorem fromTable_effect_conv {s : State} (k : Digit) (hm : s.cfg.publishMode = .atomic) :
    FromTable k (effect .conv s) := ⟨bandOf s.cdata, by rw [effect_conv_atomic hm]; rfl⟩

end Sys2Proof.Machine
end

section
/-! SUPPORT. The invariant `SafeState` of R42: it holds after a reset and every operation keeps it, so a step does
and every reachable state has it. -/

namespace Sys2Proof.Machine

/-! ### After a reset -/

/-- Every draw of `DLY` is in range (R42 item (c); log entry 4). -/
theorem draw_le_settle (n : Fin 21) : BitVec.ofNat 5 n.val ≤ settle := by revert n; decide

theorem controlInv_afterReset (cfg : Config) (d : ResetDraw) : ControlInv (State.afterReset cfg d) :=
  ⟨nofun, draw_le_settle d.dly, nofun, rfl, nofun, nofun, nofun⟩

theorem modeInv_afterReset (cfg : Config) (d : ResetDraw) : ModeInv (State.afterReset cfg d) :=
  ⟨nofun, nofun, absurd rfl, nofun, absurd rfl, nofun, fun _ => ⟨rfl, rfl⟩⟩

/-- A pattern set at its reset value meets the invariant in either mode. -/
theorem patternInv_of_eq_patReset {s : State} (h : s.pat = s.cfg.patReset) : PatternInv s := by
  unfold PatternInv
  cases s.cfg.publishMode with
  | atomic => exact .inl h
  | split => exact fun i => .inl (by rw [h])

theorem safeState_afterReset (cfg : Config) (d : ResetDraw) : SafeState (State.afterReset cfg d) :=
  ⟨controlInv_afterReset cfg d, modeInv_afterReset cfg d, patternInv_of_eq_patReset rfl, .inl rfl⟩

/-! ### After an operation -/

theorem controlInv_effect {i : Instr} {s : State} (hc : ControlInv s) (hm : ModeInv s) (ht : transits i s = true) :
    ControlInv (effect i s) := by
  obtain ⟨hphase, hdly, hpos, hrun, hbusy, hstarted, hpend⟩ := hc
  have hen := enabled_of_transits ht
  cases i with
  | rst => exact controlInv_afterReset s.cfg (resetDraw s)
  | init => exact ⟨hphase, hdly, hpos, rfl, hbusy, hstarted, hpend⟩
  | adcdone v =>
    have hreq : s.adstarted = true := by
      obtain ⟨hfree, hshot⟩ := (adcdoneEnabled_iff s).mp hen
      cases hmodel : s.cfg.adcModel with
      | free => exact hfree hmodel
      | oneShot => exact hbusy (hshot hmodel)
    exact ⟨hphase, hdly, hpos, hrun, nofun, hstarted, fun _ => hreq⟩
  | conv =>
    cases hmode : s.cfg.publishMode with
    | atomic => rw [effect_conv_atomic hmode]; exact ⟨hphase, hdly, hpos, hrun, hbusy, hstarted, nofun⟩
    | split => rw [effect_conv_split hmode]; exact ⟨hphase, hdly, hpos, hrun, hbusy, hstarted, nofun⟩
  | arm => exact ⟨nofun, BitVec.le_refl _, fun _ => (by decide : 1 ≤ settle), hrun, hbusy, fun _ => rfl, hpend⟩
  | wait =>
    have hge := hpos ((seqAt_iff 1 s).mp hen).2
    have hdec : s.dly - 1 ≤ settle ∧ (s.dly - 1 ≠ 0 → 1 ≤ s.dly - 1) := by
      simp only [settle] at hdly ⊢
      bv_omega
    refine ⟨?_, hdec.1, ?_, hrun, hbusy, hstarted, hpend⟩
    · rw [effect, waitUnit_phase]; split <;> decide
    · rw [effect, waitUnit_phase]
      split
      · exact nofun
      · exact fun _ => hdec.2 ‹_›
  | trig =>
    have harmed := hm.2.2.1 (by rw [((seqAt_iff 2 s).mp hen).2]; decide)
    exact ⟨nofun, hdly, nofun, hrun, fun _ => rfl, fun _ => harmed, fun _ => rfl⟩
  | rdcur | selpat | wrpat | seldig => exact ⟨nofun, hdly, nofun, hrun, hbusy, hstarted, hpend⟩
  | _ => exact ⟨hphase, hdly, hpos, hrun, hbusy, hstarted, hpend⟩

theorem modeInv_effect {i : Instr} {s : State} (hc : ControlInv s) (hm : ModeInv s) (ht : transits i s = true) :
    ModeInv (effect i s) := by
  obtain ⟨harmed, hticked, hphase, hshow, hmarks, hrow, hatomic⟩ := hm
  obtain ⟨-, -, -, -, -, hstarted, hpend⟩ := hc
  have hen := enabled_of_transits ht
  cases i with
  | rst => exact modeInv_afterReset s.cfg (resetDraw s)
  | init => exact ⟨fun _ => rfl, fun _ => rfl, hphase, hshow, hmarks, hrow, hatomic⟩
  | tickin => exact ⟨harmed, fun _ => hen, hphase, hshow, hmarks, hrow, hatomic⟩
  | adcdone v => exact ⟨harmed, hticked, hphase, hshow, hmarks, hrow, hatomic⟩
  | tick => exact ⟨harmed, nofun, hphase, hshow, hmarks, hrow, hatomic⟩
  | conv =>
    obtain ⟨-, hready, -⟩ := (convHandler_iff s).mp hen
    cases hmode : s.cfg.publishMode with
    | atomic => rw [effect_conv_atomic hmode]; exact ⟨harmed, hticked, hphase, hshow, hmarks, hrow, hatomic⟩
    | split =>
      rw [effect_conv_split hmode]
      exact ⟨harmed, hticked, hphase, hshow, fun _ => hpend hready, bandCode_ne_three _, by simp [hmode]⟩
  | pubw k =>
    obtain ⟨hsplit, hmark⟩ := (pubwEnabled_iff k s).mp hen
    have hopen : s.pubmask ≠ 0 := by rintro h0; simp [h0] at hmark
    exact ⟨harmed, hticked, hphase, hshow, fun _ => hmarks hopen, hrow, by simp [hsplit]⟩
  | arm =>
    have hrun := ((seqAt_iff 0 s).mp hen).1
    exact ⟨fun _ => hrun, hticked, fun _ => rfl, nofun, hmarks, hrow, hatomic⟩
  | wait =>
    have haden := hphase (by rw [((seqAt_iff 1 s).mp hen).2]; decide)
    refine ⟨harmed, hticked, fun _ => haden, ?_, hmarks, hrow, hatomic⟩
    rw [effect, waitUnit_phase]
    split <;> exact nofun
  | trig =>
    have haden := hphase (by rw [((seqAt_iff 2 s).mp hen).2]; decide)
    exact ⟨harmed, hticked, fun _ => haden, fun _ => rfl, fun _ => rfl, hrow, hatomic⟩
  | rdcur | selpat | wrpat =>
    have hreq : s.adstarted = true := hshow (by rw [((seqAt_iff _ s).mp hen).2]; decide)
    exact ⟨harmed, hticked, fun _ => hstarted hreq, fun _ => hreq, hmarks, hrow, hatomic⟩
  | seldig => exact ⟨harmed, hticked, absurd rfl, nofun, hmarks, hrow, hatomic⟩

theorem patternInv_effect {i : Instr} {s : State} (h : PatternInv s) (ht : transits i s = true) :
    PatternInv (effect i s) := by
  by_cases hr : i = .rst
  · subst hr; exact patternInv_of_eq_patReset rfl
  unfold PatternInv at h ⊢
  rw [effect_cfg]
  cases hmode : s.cfg.publishMode with
  | atomic =>
    simp only [hmode] at h ⊢
    obtain e | ⟨-, -, hb⟩ | ⟨hsplit, -⟩ := effect_pat_cases hr ht
    · simpa only [WholeRow, e] using h
    · exact .inr hb
    · simp [hmode] at hsplit
  | split =>
    simp only [hmode] at h ⊢
    intro k
    obtain e | hk := effect_patRead_cases hr ht k
    · rw [e]; exact h k
    · exact .inr hk

theorem oneCold_effect {i : Instr} {s : State} (h : OneCold s) (hr : i ≠ .rst) : OneCold (effect i s) := by
  by_cases hd : i = .seldig
  · subst hd; exact ⟨_, selectDigit_dselN s⟩
  · unfold OneCold; rw [effect_dselN s hr hd]; exact h

theorem selectInv_effect {i : Instr} {s : State} (h : SelectInv s) : SelectInv (effect i s) := by
  by_cases hr : i = .rst
  · subst hr; exact .inl rfl
  by_cases hd : i = .seldig
  · subst hd; exact .inr ⟨_, selectDigit_dselN s⟩
  obtain h | h := h
  · exact .inl (by rw [effect_dselN s hr hd, effect_cfg, h])
  · exact .inr (oneCold_effect h hr)

/-- Every operation, a reset among them, keeps the invariant (R42). -/
theorem safeState_effect {i : Instr} {s : State} (h : SafeState s) (ht : transits i s = true) :
    SafeState (effect i s) := by
  obtain ⟨hcontrol, hmode, hpattern, hselect⟩ := h
  exact ⟨controlInv_effect hcontrol hmode ht, modeInv_effect hcontrol hmode ht, patternInv_effect hpattern ht,
    selectInv_effect hselect⟩

/-- What every state a trace passes through has, because the first one has it. -/
theorem safeState_of_leads {p : Trace} {s t : State} (hs : SafeState s) (h : Leads p s t) : SafeState t :=
  leads_induction h hs fun _ _ _ hu ht => safeState_effect hu ht

/-- Settles O26: the step runs one operation, on a state that differs only in its queue, and every operation keeps the
invariant. -/
theorem stepKeepsTheInvariant : Obligations.StepKeepsTheInvariant := by
  intro s s' hs hstep
  obtain ⟨w, rest, i, -, -, hexec⟩ := (step_next_iff s s').mp hstep
  obtain ⟨ht, rfl⟩ := (exec_next_iff i _ s').mp hexec
  have hqueue : SafeState { s with events := rest } := hs
  exact safeState_effect hqueue ht

/-- Settles O27: the control part of the invariant, which holds after reset, read as numbers. -/
theorem reachableStatesAreSafe : Obligations.ReachableStatesAreSafe := by
  intro cfg d t s h
  obtain ⟨⟨hphase, hdly, hpos, hrun, hbusy, hstarted, hpend⟩, -⟩ :=
    safeState_of_leads (safeState_afterReset cfg d) h
  have hphase' : s.phase.toNat ≤ 6 := by bv_omega
  exact ⟨s.cur.isLt, hphase', hdly, hpos, hrun, hbusy, hstarted, hpend⟩

/-- Settles O25: `State.reset` is one of the states after reset, and all of them are safe. -/
theorem resetMeetsTheInvariant : Obligations.ResetMeetsTheInvariant :=
  ⟨safeState_afterReset _ _, safeState_afterReset⟩

/-- Settles O24: the values stand in `State.afterReset`, of which `State.reset` is the case of R7's defaults. -/
theorem resetGivesTheTablesValues : Obligations.ResetGivesTheTablesValues := by
  refine ⟨fun cfg d => ?_, ?_⟩
  · simp [State.afterReset]
  · exact ⟨rfl, rfl, rfl, rfl, rfl, rfl, rfl, _, _, rfl⟩

end Sys2Proof.Machine
end

section
/-! SUPPORT. What a trace keeps of R42's histories: once a `SELDIG`, a publish or a `SELPAT` has set something up, no
operation but a reset or its own kind undoes it. -/

namespace Sys2Proof.Machine

/-- What the operation `x` sets up and every operation of the trace keeps holds at the end of a trace with an `x`. -/
theorem leads_established {P : State → Prop} {x : Instr} {p : Trace} {s t : State} (h : Leads p s t) (hx : x ∈ p)
    (make : ∀ u, u.cfg = s.cfg → transits x u = true → P (effect x u))
    (keep : ∀ i ∈ p, ∀ u, P u → transits i u = true → P (effect i u)) : P t := by
  obtain ⟨a, b, rfl⟩ := List.append_of_mem hx
  obtain ⟨u, ha, hxb⟩ := (leads_append a (x :: b) s t).mp h
  obtain ⟨hxu, hb⟩ := (leads_cons x b u t).mp hxb
  exact leads_induction hb (make u (leads_cfg ha) hxu) fun i hi => keep i (by simp [hi])

/-- Settles O30: `SELDIG` makes the lines one-cold and every operation but a reset keeps them so. -/
theorem onePositionStaysLit : Obligations.OnePositionStaysLit := by
  intro p s t hr hx h
  obtain ⟨c, hc⟩ : OneCold t :=
    leads_established h hx (fun u _ _ => ⟨_, selectDigit_dselN u⟩)
      (fun i hi u hu _ => oneCold_effect hu (ne_of_mem_of_not_mem hi hr))
  exact ⟨c, hc, litPositions_onecold hc⟩

/-! ### Published elements -/

/-- Once a trace has written an element, in either mode, it is its position's byte of some row (R42 items (f), (g)). -/
theorem fromTable_of_writesElement {p : Trace} {s t : State} {k : Digit} (h : Leads p s t) (hr : .rst ∉ p)
    (hw : WritesElement s.cfg.publishMode k p) : FromTable k t := by
  have keep : ∀ i ∈ p, ∀ u, FromTable k u → transits i u = true → FromTable k (effect i u) :=
    fun i hi u hu ht => fromTable_effect hu (ne_of_mem_of_not_mem hi hr) ht
  unfold WritesElement at hw
  cases hmode : s.cfg.publishMode with
  | atomic =>
    rw [hmode] at hw
    exact leads_established h hw (fun u hcfg _ => fromTable_effect_conv k (hcfg ▸ hmode)) keep
  | split =>
    rw [hmode] at hw
    exact leads_established h hw (fun u _ _ => fromTable_effect_pubw k u) keep

/-- In split mode an element that no `PUBW` of the trace writes stays (R42 item (g)). -/
theorem patRead_of_leads_split {p : Trace} {s t : State} {k : Digit} (hm : s.cfg.publishMode = .split)
    (h : Leads p s t) (hr : .rst ∉ p) (hk : .pubw k ∉ p) : patRead t.pat k = patRead s.pat k := by
  refine (leads_induction (P := fun u => u.cfg = s.cfg ∧ patRead u.pat k = patRead s.pat k) h ⟨rfl, rfl⟩ ?_).2
  rintro i hi u ⟨hcfg, hu⟩ ht
  refine ⟨by rw [effect_cfg, hcfg], ?_⟩
  rw [effect_patRead_of_ne_pubw (hcfg ▸ hm) (ne_of_mem_of_not_mem hi hr) (ne_of_mem_of_not_mem hi hk) ht, hu]

/-- Settles O29: the two lemmas above, one for each half. -/
theorem splitElementsComeFromTheTable : Obligations.SplitElementsComeFromTheTable := by
  intro p s t hm hr h k
  exact ⟨patRead_of_leads_split hm h hr, fun hk => fromTable_of_writesElement h hr (by rw [hm]; exact hk)⟩

/-! ### Selected and shown bytes -/

theorem pbuf_of_leads {p : Trace} {s t : State} (h : Leads p s t) (hr : .rst ∉ p) (hs : .selpat ∉ p) :
    t.pbuf = s.pbuf :=
  leads_induction (P := fun u => u.pbuf = s.pbuf) h rfl fun _ hi u hu _ =>
    (effect_pbuf u (ne_of_mem_of_not_mem hi hr) (ne_of_mem_of_not_mem hi hs)).trans hu

theorem seg_of_leads {p : Trace} {s t : State} (h : Leads p s t) (hr : .rst ∉ p) (hw : .wrpat ∉ p) :
    t.seg = s.seg :=
  leads_induction (P := fun u => u.seg = s.seg) h rfl fun _ hi u hu _ =>
    (effect_seg u (ne_of_mem_of_not_mem hi hr) (ne_of_mem_of_not_mem hi hw)).trans hu

/-- A `SELPAT` at a published element leaves a table byte in `PBUF` until the next one (R122, R130). -/
theorem pbuf_mem_tableBytes {b : Trace} {u t : State} (hu : FromTable u.idx u) (hr : .rst ∉ b) (hs : .selpat ∉ b)
    (h : Leads (.selpat :: b) u t) : t.pbuf ∈ tableBytes := by
  obtain ⟨-, hb⟩ := (leads_cons _ _ _ _).mp h
  obtain ⟨band, hband⟩ := hu
  have hpbuf : t.pbuf = patRead u.pat u.idx := pbuf_of_leads hb hr hs
  rw [hpbuf, hband]
  exact rowRead_mem_tableBytes band u.idx

/-- Settles O31: the element at `IDX` is a row's byte when `SELPAT` reads it; `PBUF` keeps it up to `WRPAT`, which
copies it to `SEG`. -/
theorem shownBytesComeFromTheTable : Obligations.ShownBytesComeFromTheTable := by
  refine ⟨?_, ?_⟩
  · intro a b s u t hra hrb ha hw hs h
    exact pbuf_mem_tableBytes (fromTable_of_writesElement ha hra hw) hrb hs h
  · intro a b c s u t hra hrb hrc ha hw hsb hwc h
    obtain ⟨v, hselect, hwrite⟩ := (leads_append (.selpat :: b) (.wrpat :: c) u t).mp h
    obtain ⟨-, hc⟩ := (leads_cons _ _ _ _).mp hwrite
    have hseg : t.seg = v.pbuf := seg_of_leads hc hrc hwc
    rw [hseg]
    exact pbuf_mem_tableBytes (fromTable_of_writesElement ha hra hw) hrb hsb hselect

end Sys2Proof.Machine
end

section
/-! SUPPORT. The ownership matrix of R39 as two facts about `effect` and `transits`: a register outside an operation's
write row keeps its value, and states that agree on its read row agree on what it does. -/

namespace Sys2Proof.Machine

theorem pat_mem_patRegs (k : Digit) : .pat k ∈ patRegs := by revert k; decide

theorem mem_regAll (r : Reg) : r ∈ Reg.all := by
  cases r with
  | pat k => revert k; decide
  | _ => decide

/-! ### The write side -/

/-- An operation keeps the value of every register outside its row of the matrix (R39). -/
theorem regValue_effect_of_not_mem_writes {i : Instr} {s : State} {r : Reg} (hr : r ∉ writes s.cfg.publishMode i) :
    regValue (effect i s) r = regValue s r := by
  cases i with
  | rst => exact absurd (mem_regAll r) hr
  | conv =>
    cases hm : s.cfg.publishMode with
    | atomic =>
      rw [hm] at hr
      rw [effect_conv_atomic hm]
      cases r with
      | pat k => exact absurd (List.mem_cons_of_mem _ (pat_mem_patRegs k)) hr
      | cpend => exact absurd List.mem_cons_self hr
      | _ => rfl
    | split => rw [effect_conv_split hm]; cases r <;> simp_all [writes, regValue]
  | pubw k =>
    cases r with
    | pat j =>
      have hj : j ≠ k := by rintro rfl; simp [writes] at hr
      exact congrArg BitVec.toNat (patRead_patWrite_ne _ _ hj)
    | pubmask => simp [writes] at hr
    | _ => rfl
  | _ => cases r <;> simp_all [writes, regValue, effect]

/-- Only `TRIG` emits an `adc_start` pulse (R31; log entry 5). -/
theorem effect_adcStarts (i : Instr) (s : State) :
    (effect i s).adcStarts = s.adcStarts + if adcStartPulse i then 1 else 0 := by
  cases i with
  | conv =>
    cases hm : s.cfg.publishMode with
    | atomic => rw [effect_conv_atomic hm]; rfl
    | split => rw [effect_conv_split hm]; rfl
  | _ => rfl

/-- Only `RST` counts as a reset (log entry 3). -/
theorem effect_resetCount {i : Instr} (s : State) (hr : i ≠ .rst) : (effect i s).resetCount = s.resetCount := by
  cases i with
  | rst => exact absurd rfl hr
  | conv =>
    cases hm : s.cfg.publishMode with
    | atomic => rw [effect_conv_atomic hm]
    | split => rw [effect_conv_split hm]
  | _ => rfl

/-- The registers that only the sequencer writes (R39). -/
def seqRegs : List Reg := [.phase, .dly, .idx, .pbuf, .seg, .dselN, .aden, .adstarted, .adbusy]

theorem mem_seqRegs_of_mem_writes_seq {m : PublishMode} {i : Instr} {r : Reg} (hi : i.agent = .seq)
    (hr : r ∈ writes m i) : r ∈ seqRegs := by
  revert r
  cases i <;> simp_all [Instr.agent, writes, seqRegs]

theorem not_mem_seqRegs_of_mem_writes_irq {m : PublishMode} {i : Instr} {r : Reg} (hi : i.agent = .irq)
    (hr : r ∈ writes m i) : r ∉ seqRegs := by
  revert r
  cases i with
  | conv => cases m <;> simp [writes, patRegs, seqRegs]
  | tick | pubw k => simp [writes, seqRegs]
  | _ => simp [Instr.agent] at hi

theorem not_mem_writes_tick_of_mem_writes_publish {m : PublishMode} {i : Instr} {r : Reg}
    (hi : i = .conv ∨ ∃ k, i = .pubw k) (hr : r ∈ writes m i) : r ∉ writes m .tick := by
  revert r
  obtain rfl | ⟨k, rfl⟩ := hi
  · cases m <;> simp [writes, patRegs]
  · simp [writes]

/-- Settles O38: the frame of each operation, and the rows of the matrix side by side. -/
theorem onlyTheOwnerWrites : Obligations.OnlyTheOwnerWrites := by
  refine ⟨?_, ?_, fun m i r => not_mem_writes_tick_of_mem_writes_publish⟩
  · intro i s t h
    obtain ⟨-, rfl⟩ := (exec_next_iff i s t).mp h
    exact ⟨fun r => regValue_effect_of_not_mem_writes, effect_cfg i s, effect_events i s, effect_adcStarts i s,
      effect_resetCount s⟩
  · intro m i j r hi hj hr hr'
    exact not_mem_seqRegs_of_mem_writes_irq hi hr (mem_seqRegs_of_mem_writes_seq hj hr')

/-! ### The read side -/

/-- Two states hold the same values in the registers of a list. -/
def AgreeOn (l : List Reg) (s t : State) : Prop := ∀ r ∈ l, regValue s r = regValue t r

@[simp] theorem boolToNat_inj {a b : Bool} : a.toNat = b.toNat ↔ a = b := by cases a <;> cases b <;> decide

theorem pat_eq_of_agreeOn {l : List Reg} {s t : State} (h : AgreeOn l s t) (hl : patRegs ⊆ l) : s.pat = t.pat :=
  patterns_ext fun k => BitVec.eq_of_toNat_eq (h (.pat k) (hl (pat_mem_patRegs k)))

/-- Whether an operation is a transition depends on its read row alone; for a handler that row names the other source
exactly where the priority holds it back (R39, R159; log entry 10). -/
theorem transits_eq_of_agreeOn_reads {i : Instr} {s t : State} (hcfg : s.cfg = t.cfg)
    (h : AgreeOn (reads s.cfg.irqPriority i) s t) : transits i s = transits i t := by
  cases i with
  | tick | conv =>
    rw [Bool.eq_iff_iff]
    cases hp : s.cfg.irqPriority <;>
      simp_all [AgreeOn, reads, regValue, BitVec.toNat_inj, transits, enabled, tickHandler_iff, convHandler_iff]
  | adcdone v =>
    rw [Bool.eq_iff_iff]
    simp_all [AgreeOn, reads, regValue, transits, enabled, adcdoneEnabled_iff]
  | pubw k => simp_all [AgreeOn, reads, regValue, BitVec.toNat_inj, transits, enabled, pubwEnabled]
  | rst => rfl
  | init => simp_all [AgreeOn, reads, regValue, transits, enabled, initEnabled]
  | tickin => simp_all [AgreeOn, reads, regValue, transits, enabled, tickinEnabled]
  | _ => simp_all [AgreeOn, reads, regValue, BitVec.toNat_inj, transits, enabled, seqAt]

/-- What an operation writes depends on its read row alone, and for `RST` on the draw (R39; log entry 3). -/
theorem effect_agreeOn_writes {i : Instr} {s t : State} (hcfg : s.cfg = t.cfg)
    (hcount : i = .rst → s.resetCount = t.resetCount) (h : AgreeOn (reads s.cfg.irqPriority i) s t) :
    AgreeOn (writes s.cfg.publishMode i) (effect i s) (effect i t) := by
  cases i with
  | rst => intro r _; cases r <;> simp [effect, regValue, resetDraw, hcfg, hcount rfl]
  | conv =>
    have hdata : s.cdata = t.cdata :=
      BitVec.eq_of_toNat_eq (h .cdata (by cases s.cfg.irqPriority <;> simp [reads]))
    cases hm : s.cfg.publishMode with
    | atomic =>
      rw [effect_conv_atomic hm, effect_conv_atomic (hcfg ▸ hm)]
      simp [AgreeOn, writes, patRegs, regValue, hdata]
    | split =>
      rw [effect_conv_split hm, effect_conv_split (hcfg ▸ hm)]
      simp [AgreeOn, writes, regValue, hdata]
  | tick =>
    have hcur : s.cur = t.cur :=
      BitVec.eq_of_toNat_eq (h .cur (by cases s.cfg.irqPriority <;> simp [reads]))
    simp [AgreeOn, writes, regValue, effect, hcur]
  | selpat =>
    have hidx : s.idx = t.idx := BitVec.eq_of_toNat_eq (h .idx (by simp [reads]))
    have hpat : s.pat = t.pat := pat_eq_of_agreeOn h (List.subset_append_right _ _)
    simp [AgreeOn, writes, regValue, effect, hidx, hpat]
  | _ => simp_all [AgreeOn, reads, writes, regValue, BitVec.toNat_inj, effect, selectIndex]

/-- Settles O39: agreement on the reads makes both states transitions of the operation, with the same writes. -/
theorem operationsReadOnlyTheirRegisters : Obligations.OperationsReadOnlyTheirRegisters := by
  intro i s₁ s₂ t₁ hcfg hcount hreads hexec
  obtain ⟨ht, rfl⟩ := (exec_next_iff i s₁ t₁).mp hexec
  have ht₂ : transits i s₂ = true := transits_eq_of_agreeOn_reads hcfg hreads ▸ ht
  exact ⟨effect i s₂, exec_of_transits ht₂, effect_agreeOn_writes hcfg hcount hreads⟩

end Sys2Proof.Machine
end

section
/-! SUPPORT. The constant table of R23: its twelve bytes and the eight values they take. -/

namespace Sys2Proof.Machine

/-- Every byte of `TABLE_BYTES` stands somewhere in the table (R23). -/
theorem exists_rowRead_of_mem_tableBytes {x : Byte} (hx : x ∈ tableBytes) : ∃ b i, rowRead b i = x := by
  simp only [tableBytes, List.mem_cons, List.not_mem_nil, or_false] at hx
  obtain rfl | rfl | rfl | rfl | rfl | rfl | rfl | rfl := hx
  · exact ⟨.low, 0, rfl⟩
  · exact ⟨.low, 1, rfl⟩
  · exact ⟨.low, 2, rfl⟩
  · exact ⟨.mid, 1, rfl⟩
  · exact ⟨.mid, 2, rfl⟩
  · exact ⟨.mid, 3, rfl⟩
  · exact ⟨.high, 1, rfl⟩
  · exact ⟨.high, 2, rfl⟩

/-- Settles O23: the twelve bytes by evaluation, the eight values in both directions. -/
theorem tableHoldsTheTwelveBytes : Obligations.TableHoldsTheTwelveBytes := by
  refine ⟨by decide, by decide, by decide, fun x => ⟨?_, exists_rowRead_of_mem_tableBytes⟩, rfl, by decide⟩
  rintro ⟨b, i, rfl⟩
  exact rowRead_mem_tableBytes b i

end Sys2Proof.Machine
end

section
/-! SUPPORT. Forward progress of the latches and of a split publish (R66): what leaves a pending latch set, and when a
`PUBW` runs. -/

namespace Sys2Proof.Machine

/-! ### The pending latches -/

/-- A set `TPEND` outlives every operation but `TICK` and `RST`: a further `TICKIN` sets it again, and nothing else
writes it (R34, R153). -/
theorem effect_tpend_of_pending {i : Instr} {s : State} (hr : i ≠ .rst) (hi : i ≠ .tick) (hp : s.tpend = true) :
    (effect i s).tpend = true := by
  by_cases hs : i = .tickin
  · subst hs
    exact raiseIrq_tick_tpend s
  · rw [effect_tpend s hr hs hi, hp]

/-- A set `CPEND` outlives every operation but `CONV` and `RST`: a further `ADCDONE` sets it again, and nothing else
writes it (R35, R154). -/
theorem effect_cpend_of_pending {i : Instr} {s : State} (hr : i ≠ .rst) (hi : i ≠ .conv) (hp : s.cpend = true) :
    (effect i s).cpend = true := by
  by_cases hs : ∃ v, i = .adcdone v
  · obtain ⟨v, rfl⟩ := hs
    exact raiseIrq_conv_cpend (latchResult v s)
  · rw [effect_cpend s hr (not_exists.mp hs) hi, hp]

/-! ### A split publish -/

/-- `PUBW k` is a transition exactly in split mode, with its mark set and a band's row code; no enable and no latch
stands in the condition (R66, R111; U22). -/
theorem transits_pubw_iff (k : Digit) (s : State) :
    transits (.pubw k) s = true ↔
      s.cfg.publishMode = .split ∧ stillToWrite s.pubmask k = true ∧ s.prow ≠ 3#2 := by
  rw [transits, enabled, Bool.and_eq_true, pubwEnabled_iff, bne_iff_ne, and_assoc]

/-- `PUBW k` leaves its own mark cleared (R111). -/
theorem stillToWrite_effect_pubw (k : Digit) (s : State) : stillToWrite (effect (.pubw k) s).pubmask k = false := by
  rw [effect, writeElement_pubmask, stillToWrite_clearMark, bne_self_eq_false, Bool.and_false]

/-- Settles O37: each latch along the operations that are no handler of it, and `PUBW` from its transition condition. -/
theorem pendingLatchesStaySet : Obligations.PendingLatchesStaySet := by
  constructor
  · intro i s t h hr
    obtain ⟨-, rfl⟩ := (exec_next_iff i s t).mp h
    exact ⟨effect_tpend_of_pending hr, effect_cpend_of_pending hr⟩
  · intro s k hmode hrow hmark
    exact ⟨effect (.pubw k) s, exec_of_transits ((transits_pubw_iff k s).mpr ⟨hmode, hmark, hrow⟩),
      stillToWrite_effect_pubw k s⟩

end Sys2Proof.Machine
end

section
/-! SUPPORT. The opcode map read backwards: what a matched row says of the word, the word of the operation a row builds,
and from these the round trip of the decoder in both directions (R71 to R75). -/

namespace Sys2Proof

/-! ### The two fields of a word -/

theorem opField_and (v w : EventWord) : opField (v &&& w) = opField v &&& opField w := BitVec.extractLsb'_and

theorem opField_or (v w : EventWord) : opField (v ||| w) = opField v ||| opField w := BitVec.extractLsb'_or

theorem argField_and (v w : EventWord) : argField (v &&& w) = argField v &&& argField w := BitVec.extractLsb'_and

theorem argField_or (v w : EventWord) : argField (v ||| w) = argField v ||| argField w := BitVec.extractLsb'_or

/-- Two words with the same opcode and the same operand are equal (R71). -/
theorem eventWord_ext {v w : EventWord} (hop : opField v = opField w) (harg : argField v = argField w) : v = w := by
  rw [← assemble_fields v, hop, harg, assemble_fields]

/-- Format I's index is the two low bits of the operand (R75). -/
theorem setWidth_indexField (w : EventWord) : (indexField w).setWidth 8 = argField w &&& 0x03 := by
  have low : ∀ a : Byte, (a.extractLsb' 0 2).setWidth 8 = a &&& 0x03 := by decide
  rw [← low, argField, BitVec.extractLsb'_extractLsb'_of_le (by decide), indexField]

/-! ### The rows of the opcode map -/

theorem hits_iff (r : OpRow) (w : EventWord) : r.hits w = true ↔ w &&& r.mask = r.bits := beq_iff_eq

/-- Every row fixes the whole opcode (R73). -/
theorem opField_mask_of_mem : ∀ r ∈ opcodeRows, opField r.mask = 0xF := by decide

/-- The opcode tells the rows apart (R73). -/
theorem mnemonic_eq_of_opField_bits_eq :
    ∀ r₁ ∈ opcodeRows, ∀ r₂ ∈ opcodeRows, opField r₁.bits = opField r₂.bits → r₁.mnemonic = r₂.mnemonic := by
  decide

/-- A word has the opcode of a row it matches. -/
theorem opField_bits_of_hits {r : OpRow} {w : EventWord} (hr : r ∈ opcodeRows) (h : r.hits w = true) :
    opField r.bits = opField w := by
  rw [← (hits_iff r w).mp h, opField_and, opField_mask_of_mem r hr]
  exact BitVec.and_allOnes

/-- Settles O4: two rows that a word matches both have its opcode, and the opcode tells the rows apart. -/
theorem opcodeRowsAreDisjoint : Obligations.OpcodeRowsAreDisjoint := fun _ r₁ r₂ h₁ h₂ hits₁ hits₂ =>
  mnemonic_eq_of_opField_bits_eq r₁ h₁ r₂ h₂
    ((opField_bits_of_hits h₁ hits₁).trans (opField_bits_of_hits h₂ hits₂).symm)

/-! ### The word of the operation a row builds -/

/-- Format N: the row leaves no bit of the word free (R72). -/
theorem bits_formatN (b w : EventWord) : b = b ||| (w &&& ~~~0xFFF) := by simp

/-- Format V: the row leaves the operand free (R72, R75). -/
theorem encode_adcdone_argField (w : EventWord) : encode (.adcdone (argField w)) = 0x300 ||| (w &&& ~~~0xF00) := by
  apply eventWord_ext
  · rw [encode, opField_assemble, opField_or, opField_and]
    exact (by simp : (0x3 : BitVec 4) = 0x3 ||| (opField w &&& 0x0))
  · rw [encode, argField_assemble, argField_or, argField_and]
    exact (BitVec.zero_or.trans BitVec.and_allOnes).symm

/-- Format I: the row leaves the two low bits of the operand free (R72, R75). -/
theorem encode_pubw_indexField (w : EventWord) : encode (.pubw (indexField w)) = 0x600 ||| (w &&& ~~~0xFFC) := by
  apply eventWord_ext
  · rw [encode, opField_assemble, opField_or, opField_and]
    exact (by simp : (0x6 : BitVec 4) = 0x6 ||| (opField w &&& 0x0))
  · rw [encode, argField_assemble, argField_or, argField_and, setWidth_indexField]
    exact (BitVec.zero_or).symm

/-- The word of the operation that a row builds: the row's bits, and those of the given word that its mask leaves free. -/
theorem encode_build : ∀ r ∈ opcodeRows, ∀ w, encode (r.build w) = r.bits ||| (w &&& ~~~r.mask) := by
  simp only [opcodeRows, List.forall_mem_append, List.forall_mem_cons]
  exact ⟨⟨bits_formatN _, bits_formatN _, bits_formatN _, encode_adcdone_argField, bits_formatN _, bits_formatN _,
      encode_pubw_indexField, nofun⟩,
    bits_formatN _, bits_formatN _, bits_formatN _, bits_formatN _, bits_formatN _, bits_formatN _, bits_formatN _,
    nofun⟩

/-- A word is the word of the operation that a row it matches builds. -/
theorem encode_build_of_hits {r : OpRow} {w : EventWord} (hr : r ∈ opcodeRows) (h : r.hits w = true) :
    encode (r.build w) = w := by
  rw [encode_build r hr, ← (hits_iff r w).mp h, ← BitVec.and_or_distrib_left, BitVec.or_not_self,
    BitVec.and_allOnes]

/-! ### The round trip -/

/-- Settles O1: `decode_encode`, by cases on the operation. -/
theorem encodedOperationsDecodeBack : Obligations.EncodedOperationsDecodeBack := decode_encode

/-- Settles O3: each of the five is the word of its operation. -/
theorem opcodeMapWordsDecode : Obligations.OpcodeMapWordsDecode :=
  ⟨decode_encode .rst, decode_encode .tickin, decode_encode (.adcdone 75), decode_encode (.pubw 2),
    decode_encode .seldig⟩

/-- A word that names an operation is that operation's word (R71 to R77). -/
theorem encode_of_decode {w : EventWord} {i : Instr} (h : decode w = .instr i) : encode i = w := by
  obtain ⟨r, hr, hits, rfl⟩ := decode_instr h
  exact encode_build_of_hits hr hits

/-- Settles O2: the decoder built the operation from a row that the word matches, so `encode_build_of_hits` gives the
word back. -/
theorem everyOperationHasOneWord : Obligations.EveryOperationHasOneWord := fun _ _ => encode_of_decode

end Sys2Proof
end

section
/-! SUPPORT. The words that name no operation (R76, R77). -/

namespace Sys2Proof

/-- A reserved opcode, or a reserved operand bit of format N or format I that is set (R76, R77). -/
def ReservedWord (w : EventWord) : Prop :=
  opField w = 0x7 ∨ opField w = 0xF ∨ (opField w ≠ 0x3 ∧ opField w ≠ 0x6 ∧ argField w ≠ 0) ∨
    (opField w = 0x6 ∧ (argField w).extractLsb' 2 6 ≠ 0)

/-- No operation's word is reserved. -/
theorem not_reservedWord_encode (i : Instr) : ¬ ReservedWord (encode i) := by
  unfold ReservedWord
  cases i with
  | adcdone v => simp [encode, opField_assemble]
  | pubw k => revert k; decide
  | _ => decide

/-- A reserved word names no operation. -/
theorem decode_ne_instr_of_reservedWord {w : EventWord} (h : ReservedWord w) (i : Instr) : decode w ≠ .instr i :=
  fun e => not_reservedWord_encode i (encode_of_decode e ▸ h)

namespace Machine

/-- A step refuses a word that names no operation (R79). -/
theorem step_of_decode_ne_instr {s : State} {w : EventWord} {rest : List EventWord} (hs : s.events = w :: rest)
    (hw : ∀ i, decode w ≠ .instr i) : step s = .refused (.namesNoOperation w) := by
  cases e : decode w with
  | instr i => exact absurd e (hw i)
  | bad r => exact step_of_decode_bad hs e

end Machine
end Sys2Proof
end

section
/-! SUPPORT. The sequencer's words: the phase that stands in one, and when the operation it names is a transition (R74,
R76). -/

namespace Sys2Proof.Machine

/-- Bits 10 to 8 of an operation's word, for a sequencer operation its phase (R74). -/
def wordPhase (i : Instr) : Phase := (encode i).extractLsb' 8 3

theorem encode_bit_eleven (i : Instr) : (encode i).getLsbD 11 = i.isSeq := by
  cases i with
  | adcdone v => exact Laws.SeqBit.adcdone v
  | pubw k => exact Laws.SeqBit.pubw k
  | _ => rfl

/-- A sequencer operation is a transition exactly in a running state at the phase of its word (R74). -/
theorem transits_seq_iff {i : Instr} (hi : i.isSeq = true) (s : State) :
    transits i s = true ↔ s.run = true ∧ s.phase = wordPhase i := by
  cases i with
  | arm | wait | trig | rdcur | selpat | wrpat | seldig => exact seqAt_iff _ s
  | _ => cases hi

/-- The word of a sequencer operation is bit 11, its phase and a zero operand (R74). -/
theorem encode_seq {i : Instr} (hi : i.isSeq = true) :
    encode i = (1#1 ++ wordPhase i ++ 0x00#8 : BitVec (1 + 3 + 8)) := by
  cases i with
  | arm | wait | trig | rdcur | selpat | wrpat | seldig => rfl
  | _ => cases hi

/-- Every phase but 7 is that of a sequencer operation (R25, R76). -/
theorem exists_seq_wordPhase : ∀ k : Phase, k ≠ 7 → ∃ i ∈ iterationOps, i.isSeq = true ∧ wordPhase i = k := by decide

/-- Phase 7 is no sequencer operation's (R76). -/
theorem wordPhase_ne_seven {i : Instr} (hi : i.isSeq = true) : wordPhase i ≠ 7 := by
  cases i with
  | arm | wait | trig | rdcur | selpat | wrpat | seldig => decide
  | _ => cases hi

/-! ### Phase 7 -/

/-- In phase 7 no sequencer operation is a transition (R76). -/
theorem transits_seq_of_phase_seven {i : Instr} {s : State} (hi : i.isSeq = true) (hs : s.phase = 7) :
    transits i s = false := by
  rw [Bool.eq_false_iff, ne_eq, transits_seq_iff hi]
  rintro ⟨-, hphase⟩
  exact wordPhase_ne_seven hi (hphase.symm.trans hs)

/-- In phase 7 every sequencer operation is refused because it is not enabled (R76, R79). -/
theorem exec_seq_of_phase_seven {i : Instr} {s : State} (hi : i.isSeq = true) (hs : s.phase = 7) :
    exec i s = .refused (.notEnabled i) := by
  have ht := transits_seq_of_phase_seven hi hs
  have hen : enabled i s = false := by
    rw [← transits_eq_enabled s (by rintro k rfl; cases hi), ht]
  simp [exec_eq, refusalOf, ht, hen]

/-- Nothing but a reset leads out of phase 7: the sequencer does not move, and the other agents leave `PHASE` alone. -/
theorem phase_seven_of_exec {i : Instr} {s t : State} (hs : s.phase = 7) (hr : i ≠ .rst) (h : exec i s = .next t) :
    t.phase = 7 := by
  obtain ⟨ht, rfl⟩ := (exec_next_iff i s t).mp h
  cases hi : i.isSeq with
  | true => simp [transits_seq_of_phase_seven hi hs] at ht
  | false =>
    obtain ⟨hphase, -⟩ := effect_of_other s hi hr
    exact hphase.trans hs

/-- Settles O5: the reserved words by the round trip, phase 7 by the phases that stand in the sequencer's words. -/
theorem reservedWordsAreRefused : Obligations.ReservedWordsAreRefused := by
  refine ⟨fun w s rest hs hw => ?_, fun s i hs hi => ?_, fun s t i => phase_seven_of_exec, fun s => ⟨_, rfl, rfl⟩⟩
  · have hbad := decode_ne_instr_of_reservedWord hw
    exact ⟨hbad, step_of_decode_ne_instr hs hbad⟩
  · exact exec_seq_of_phase_seven (beq_iff_eq.mpr hi) hs

/-! ### A running state -/

/-- A word with bit 11 set that is a transition is bit 11, the state's phase and a zero operand (R74). -/
theorem seq_word_of_step {s t : State} {w : EventWord} {rest : List EventWord} (hbit : w.getLsbD 11 = true)
    (h : step { s with events := w :: rest } = .next t) :
    w = (1#1 ++ s.phase ++ 0x00#8 : BitVec (1 + 3 + 8)) := by
  obtain ⟨w, rest, i, ⟨⟩, hdec, hexec⟩ := (step_next_iff _ t).mp h
  obtain rfl := encode_of_decode hdec
  have hi : i.isSeq = true := by rw [← encode_bit_eleven, hbit]
  obtain ⟨ht, -⟩ := (exec_next_iff i _ t).mp hexec
  obtain ⟨-, hphase⟩ := (transits_seq_iff hi s).mp ht
  rw [hphase, encode_seq hi]

/-- In a running state the word of bit 11, its phase and a zero operand is a transition, phase 7 apart (R74, R76). -/
theorem step_seq_word {s : State} (rest : List EventWord) (hrun : s.run = true) (h7 : s.phase ≠ 7) :
    ∃ t, step { s with events := (1#1 ++ s.phase ++ 0x00#8 : BitVec (1 + 3 + 8)) :: rest } = .next t := by
  obtain ⟨i, -, hi, hphase⟩ := exists_seq_wordPhase s.phase h7
  have hdec : decode (1#1 ++ s.phase ++ 0x00#8 : BitVec (1 + 3 + 8)) = .instr i := by
    rw [← hphase, ← encode_seq hi, decode_encode]
  have ht : transits i { s with events := rest } = true := (transits_seq_iff hi _).mpr ⟨hrun, hphase.symm⟩
  exact ⟨_, (step_of_decode_instr rfl hdec).trans (exec_of_transits ht)⟩

/-- Settles O40: the phase in an operation's word is the one it needs, and every phase but 7 has its operation. -/
theorem oneSequencerWordIsEnabled : Obligations.OneSequencerWordIsEnabled := by
  refine ⟨encode_bit_eleven, fun i s t hi h => ?_, fun s w rest hrun h7 hbit => ⟨?_, ?_⟩⟩
  · obtain ⟨ht, -⟩ := (exec_next_iff i s t).mp h
    exact ((transits_seq_iff hi s).mp ht).2
  · rintro ⟨t, h⟩
    exact seq_word_of_step hbit h
  · rintro rfl
    exact step_seq_word rest hrun h7

end Sys2Proof.Machine
end

section
/-! SUPPORT. The Digit Scheduler: what `TICKIN` and `TICK` do (R90, R91), the Cursor as a count of `TICK` (R92), and the
account of every `TICKIN` as serviced, lost or pending (R93, R94), none
of them lost under CADENCE_TICK (R202). -/

namespace Sys2Proof.Machine

/-! ### The two operations -/

/-- An operation that is not enabled is refused under its own name (R79 case (b)). -/
theorem exec_of_not_enabled {i : Instr} {s : State} (h : enabled i s = false) :
    exec i s = .refused (.notEnabled i) := by
  have ht : transits i s = false := by
    rw [Bool.eq_false_iff]
    exact fun ht => Bool.eq_false_iff.mp h (enabled_of_transits ht)
  simp [exec_eq, refusalOf, ht, h]

theorem exec_tickin_of_run {s : State} (h : s.run = true) : exec .tickin s = .next { s with tpend := true } :=
  exec_of_transits h

/-- Settles O10: `TICKIN` is enabled by `RUN` alone, and setting a latch that is set leaves the state as it is. -/
theorem tickinSetsThePendingLatch : Obligations.TickinSetsThePendingLatch := by
  refine ⟨rfl, decode_encode .tickin, fun s => exec_tickin_of_run, fun s hrun hpend => ?_, fun s hrun => ?_⟩
  · rw [exec_tickin_of_run hrun, ← hpend]
  · exact exec_of_not_enabled (i := .tickin) hrun

/-- The 2-bit increment is the increment modulo 4 (R8, R91). -/
theorem digit_add_one (c : Digit) : c + 1 = BitVec.ofNat 2 ((c.toNat + 1) % 4) := by bv_omega

theorem effect_tick (s : State) :
    effect .tick s = { s with tpend := false, cur := BitVec.ofNat 2 ((s.cur.toNat + 1) % 4) } := by
  rw [← digit_add_one]
  rfl

/-- Settles O11: `tickHandler_iff` is the enabling condition in both directions, `effect_tick` what it leads to. -/
theorem tickAdvancesTheCursor : Obligations.TickAdvancesTheCursor := by
  refine ⟨rfl, decode_encode .tick, fun s hgie hpend hmask hprio => ?_, fun s hnot => ?_⟩
  · rw [← effect_tick]
    exact exec_of_transits ((tickHandler_iff s).mpr ⟨hgie, hpend, hmask, hprio⟩)
  · have hen : enabled .tick s = false := Bool.eq_false_iff.mpr (mt (tickHandler_iff s).mp hnot)
    exact exec_of_not_enabled hen

/-! ### Counting along a trace -/

/-- A trace without a reset has none at its head and none after it. -/
theorem ne_and_notMem_of_rst_notMem_cons {i : Instr} {p : Trace} (h : .rst ∉ i :: p) : i ≠ .rst ∧ .rst ∉ p :=
  ⟨ne_of_mem_of_not_mem List.mem_cons_self h, mt (List.mem_cons_of_mem i) h⟩

theorem occurrences_cons (j i : Instr) (p : Trace) :
    occurrences j (i :: p) = occurrences j p + if i = j then 1 else 0 := by
  simp [occurrences, List.count_cons]

theorem lostTicks_cons {i : Instr} {s : State} (p : Trace) (h : transits i s = true) :
    lostTicks (i :: p) s = (if i = .tickin ∧ s.tpend = true then 1 else 0) + lostTicks p (effect i s) := by
  simp [lostTicks, exec_of_transits h]

theorem effect_cur_toNat {i : Instr} (s : State) (h : i ≠ .rst) :
    (effect i s).cur.toNat = (s.cur.toNat + if i = .tick then 1 else 0) % 4 := by
  rw [effect_cur s h]
  split
  · simp [BitVec.toNat_add]
  · exact (Nat.mod_eq_of_lt s.cur.isLt).symm

/-- Settles O32: by induction over the trace, each operation adding its own count of `TICK` to the Cursor. -/
theorem cursorCountsTheTicks : Obligations.CursorCountsTheTicks := by
  intro p s t hr h
  induction p generalizing s with
  | nil =>
    obtain rfl := (leads_nil s t).mp h
    exact (Nat.mod_eq_of_lt s.cur.isLt).symm
  | cons i p ih =>
    obtain ⟨-, hp⟩ := (leads_cons i p s t).mp h
    obtain ⟨hi, hrp⟩ := ne_and_notMem_of_rst_notMem_cons hr
    rw [ih (effect i s) hrp hp, effect_cur_toNat s hi, occurrences_cons]
    omega

/-! ### Serviced, lost or pending -/

/-- One operation's account: a `TICKIN` fills the latch or is lost on a full one, a `TICK` empties a full latch, and
nothing else moves it (R34, R93, R94). -/
theorem tick_balance {i : Instr} {s : State} (hr : i ≠ .rst) (ht : transits i s = true) :
    (if i = .tickin then 1 else 0) + s.tpend.toNat =
      (if i = .tick then 1 else 0) + (if i = .tickin ∧ s.tpend = true then 1 else 0) + (effect i s).tpend.toNat := by
  by_cases hin : i = .tickin
  · subst hin
    cases hpend : s.tpend <;> simp [effect]
  · by_cases hsvc : i = .tick
    · subst hsvc
      obtain ⟨-, hpend, -⟩ := (tickHandler_iff s).mp (enabled_of_transits ht)
      simp [effect, hpend]
    · simp [effect_tpend s hr hin hsvc, hin, hsvc]

/-- Over a trace the accounts of its operations add up (R93, R94). -/
theorem tickin_balance {p : Trace} {s t : State} (hr : .rst ∉ p) (h : Leads p s t) :
    occurrences .tickin p + s.tpend.toNat = occurrences .tick p + lostTicks p s + t.tpend.toNat := by
  induction p generalizing s with
  | nil =>
    obtain rfl := (leads_nil s t).mp h
    simp [occurrences, lostTicks]
  | cons i p ih =>
    obtain ⟨ht, hp⟩ := (leads_cons i p s t).mp h
    obtain ⟨hi, hrp⟩ := ne_and_notMem_of_rst_notMem_cons hr
    have hstep := tick_balance hi ht
    have hrest := ih hrp hp
    rw [occurrences_cons, occurrences_cons, lostTicks_cons p ht]
    omega

/-! ### No tick is lost under CADENCE_TICK -/

theorem CadenceTick.tail {i : Instr} {p : Trace} (h : CadenceTick (i :: p)) : CadenceTick p :=
  fun a b c e => h (i :: a) b c (by rw [e]; rfl)

theorem not_cadenceTick_tickin_tickin (p : Trace) : ¬ CadenceTick (.tickin :: .tickin :: p) :=
  fun h => List.not_mem_nil (h [] [] p rfl)

/-- An operation other than `TICK` between two `TICKIN` does not serve the cadence, so it can be left out. -/
theorem CadenceTick.drop_second {i : Instr} {p : Trace} (h : CadenceTick (.tickin :: i :: p)) (hi : i ≠ .tick) :
    CadenceTick (.tickin :: p) := by
  intro a b c e
  cases a with
  | nil =>
    obtain ⟨-, rfl⟩ := List.cons.inj e
    exact List.mem_of_ne_of_mem (Ne.symm hi) (h [] (i :: b) c rfl)
  | cons j a =>
    obtain ⟨-, rfl⟩ := List.cons.inj e
    exact h (.tickin :: i :: a) b c rfl

/-- The trace keeps the cadence, counting a tick already pending at its start as a `TICKIN` before it. -/
def CadenceFrom (s : State) (p : Trace) : Prop :=
  CadenceTick p ∧ (s.tpend = true → CadenceTick (.tickin :: p))

/-- After the first operation the rest of the trace keeps the cadence from the state reached. -/
theorem cadenceFrom_effect {i : Instr} {s : State} {p : Trace} (h : CadenceFrom s (i :: p)) (hr : i ≠ .rst) :
    CadenceFrom (effect i s) p := by
  obtain ⟨hcad, hpend⟩ := h
  refine ⟨hcad.tail, fun hafter => ?_⟩
  by_cases hin : i = .tickin
  · exact hin ▸ hcad
  · by_cases hsvc : i = .tick
    · subst hsvc
      simp [effect] at hafter
    · rw [effect_tpend s hr hin hsvc] at hafter
      exact (hpend hafter).drop_second hsvc

/-- A trace that keeps the cadence loses no tick: a `TICKIN` on a full latch would follow the pending one with no `TICK`
between (R94, R202). -/
theorem lostTicks_eq_zero {p : Trace} {s t : State} (hr : .rst ∉ p) (hc : CadenceFrom s p) (h : Leads p s t) :
    lostTicks p s = 0 := by
  induction p generalizing s with
  | nil => rfl
  | cons i p ih =>
    obtain ⟨ht, hp⟩ := (leads_cons i p s t).mp h
    obtain ⟨hi, hrp⟩ := ne_and_notMem_of_rst_notMem_cons hr
    have hkept : ¬ (i = .tickin ∧ s.tpend = true) := by
      rintro ⟨rfl, hpend⟩
      exact not_cadenceTick_tickin_tickin p (hc.2 hpend)
    rw [lostTicks_cons p ht, if_neg hkept, ih hrp (cadenceFrom_effect hc hi) hp]

/-- Settles O33: the balance of the accounts; under the cadence none is lost, so with nothing pending at either end the
`TICKIN` are as many as the `TICK` that the Cursor counts. -/
theorem ticksAreServicedLostOrPending : Obligations.TicksAreServicedLostOrPending := by
  refine ⟨fun p s t => tickin_balance, fun p s t hr hstart hcad h => ?_⟩
  have hlost : lostTicks p s = 0 := lostTicks_eq_zero hr ⟨hcad, by simp [hstart]⟩ h
  refine ⟨hlost, fun hend => ?_⟩
  have hserved : occurrences .tickin p = occurrences .tick p := by
    simpa [hlost, hstart, hend] using tickin_balance hr h
  rw [hserved]
  exact cursorCountsTheTicks p s t hr h

end Sys2Proof.Machine
end

section
/-! SUPPORT. What the operations of the sampler do, one at a time: `ARM`, `WAIT`, `TRIG`, `ADCDONE`, `CONV`, `PUBW` (R100
to R105, R111), and the bands that `CONV` classifies a reading by (R107 to R109). -/

namespace Sys2Proof.Machine

/-! ### The converter: `ARM`, `WAIT`, `TRIG`, `ADCDONE` -/

/-- An operation of the sequencer runs when the machine does and the phase is its own (R74). -/
theorem exec_of_seqAt {i : Instr} {k : Phase} {s : State} (hi : transits i s = seqAt k s) (hrun : s.run = true)
    (hphase : s.phase = k) : exec i s = .next (effect i s) :=
  exec_of_transits (hi.trans ((seqAt_iff k s).mpr ⟨hrun, hphase⟩))

/-- Otherwise it is refused under its own name (R79 case (b)). -/
theorem exec_of_not_seqAt {i : Instr} {k : Phase} {s : State} (hi : enabled i s = seqAt k s)
    (hnot : ¬(s.run = true ∧ s.phase = k)) : exec i s = .refused (.notEnabled i) :=
  exec_of_not_enabled (hi.trans (Bool.eq_false_iff.mpr (mt (seqAt_iff k s).mp hnot)))

/-- Settles O12: `ARM` is the sequencer's operation of phase 0, and its effect is the one named. -/
theorem armLoadsTheSettlingDelay : Obligations.ArmLoadsTheSettlingDelay :=
  ⟨rfl, decode_encode .arm, fun _ => exec_of_seqAt (i := .arm) rfl, fun _ => exec_of_not_seqAt rfl⟩

/-- From 1 up the 5-bit decrement does not wrap (R101). -/
theorem effect_wait {s : State} (h : 1 ≤ s.dly) :
    effect .wait s = { s with
      dly := BitVec.ofNat 5 (s.dly.toNat - 1), phase := if s.dly.toNat - 1 = 0 then 2 else 1 } := by
  have hdec : s.dly - 1 = BitVec.ofNat 5 (s.dly.toNat - 1) := by bv_omega
  have hzero : s.dly - 1 = 0 ↔ s.dly.toNat - 1 = 0 := by bv_omega
  simp only [effect, waitUnit, hzero]
  rw [hdec]

/-- Settles O13: `WAIT` is the sequencer's operation of phase 1; at `DLY = 0` it still writes no other register. -/
theorem waitCountsTheDelayDown : Obligations.WaitCountsTheDelayDown := by
  refine ⟨rfl, decode_encode .wait, fun s hrun hphase hdly => ?_, fun s hrun hphase => ?_,
    fun _ => exec_of_not_seqAt rfl⟩
  · rw [exec_of_seqAt (i := .wait) rfl hrun hphase, effect_wait hdly]
  · exact ⟨_, _, exec_of_seqAt (i := .wait) rfl hrun hphase⟩

/-- Settles O14: `TRIG` is the sequencer's operation of phase 2; no flag of a conversion stands in its condition. -/
theorem trigRequestsAConversion : Obligations.TrigRequestsAConversion :=
  ⟨rfl, decode_encode .trig, fun _ => exec_of_seqAt (i := .trig) rfl, fun _ => exec_of_not_seqAt rfl⟩

/-- Settles O15: `adcdoneEnabled_iff` is the enabling condition, from which each model's refusal follows. -/
theorem adcdoneLatchesTheResult : Obligations.AdcdoneLatchesTheResult := by
  refine ⟨fun _ => rfl, decode_encode (.adcdone 75), fun v s hfree hshot => ?_, fun v s hmodel hstarted => ?_,
    fun v s hmodel hbusy => ?_⟩
  · exact exec_of_transits (i := .adcdone v) ((adcdoneEnabled_iff s).mpr ⟨hfree, hshot⟩)
  · exact exec_of_not_enabled (i := .adcdone v) (by simp [enabled, adcdoneEnabled, hmodel, hstarted])
  · exact exec_of_not_enabled (i := .adcdone v) (by simp [enabled, adcdoneEnabled, hmodel, hbusy])

/-! ### Publishing: `CONV`, `PUBW` -/

/-- Settles O16: `convHandler_iff` is the enabling condition in both directions; the effect is that of each mode. -/
theorem convPublishesTheBand : Obligations.ConvPublishesTheBand := by
  refine ⟨rfl, decode_encode .conv, fun s hgie hpend hmask hprio hmode => ?_,
    fun s hgie hpend hmask hprio hmode => ?_, fun s hnot => ?_⟩
  · rw [← effect_conv_atomic hmode]
    exact exec_of_transits ((convHandler_iff s).mpr ⟨hgie, hpend, hmask, hprio⟩)
  · have h := exec_of_transits (i := .conv) ((convHandler_iff s).mpr ⟨hgie, hpend, hmask, hprio⟩)
    rwa [effect_conv_split hmode] at h
  · have hen : enabled .conv s = false := Bool.eq_false_iff.mpr (mt (convHandler_iff s).mp hnot)
    exact exec_of_not_enabled hen

/-- `PUBW k` writes the element from the row whose code `PROW` holds (R111). -/
theorem effect_pubw {s : State} {b : Band} (k : Digit) (hrow : s.prow = bandCode b) :
    effect (.pubw k) s = writeElement b k s := by
  simp [effect, hrow]

/-- With its mark set but no band's row code, `PUBW k` has no row to write and stops (R83, U22). -/
theorem exec_pubw_of_row_three {k : Digit} {s : State} (hen : enabled (.pubw k) s = true) (hrow : s.prow = 3) :
    exec (.pubw k) s = .refused .bandCodeThree := by
  have ht : transits (.pubw k) s = false := by simp [transits, hrow]
  simp [exec_eq, refusalOf, ht, hen]

/-- Settles O17: `transits_pubw_iff` says when `PUBW` writes, and `pubwEnabled_iff` when it is refused instead. -/
theorem pubwWritesOneElement : Obligations.PubwWritesOneElement := by
  refine ⟨fun _ => rfl, decode_encode (.pubw 2), fun k s b hmode hmark hrow => ?_, fun k s hmode hmark hrow => ?_,
    fun k s hnot => ?_⟩
  · have ht := (transits_pubw_iff k s).mpr ⟨hmode, hmark, hrow ▸ bandCode_ne_three b⟩
    rw [exec_of_transits ht, effect_pubw k hrow]
    rfl
  · exact exec_pubw_of_row_three ((pubwEnabled_iff k s).mpr ⟨hmode, hmark⟩) hrow
  · have hen : enabled (.pubw k) s = false := by
      refine Bool.eq_false_iff.mpr fun h => ?_
      obtain ⟨hsplit, hmark⟩ := (pubwEnabled_iff k s).mp h
      obtain hatomic | hclear := hnot
      · simp [hsplit] at hatomic
      · exact Bool.eq_false_iff.mp hclear hmark
    exact exec_of_not_enabled hen

/-! ### The bands -/

/-- The classification on numbers: the bounds 50 and 100 belong to the lower band (R24, R107). -/
theorem bandOf_eq (v : Byte) :
    bandOf v = if v.toNat ≤ 50 then .low else if v.toNat ≤ 100 then .mid else .high := rfl

/-- A reading has the band in whose closed range it lies, and no other (R107, R108). -/
theorem bandOf_eq_iff (v : Byte) (b : Band) :
    bandOf v = b ↔ (bandRange b).1 ≤ v.toNat ∧ v.toNat ≤ (bandRange b).2 := by
  have hmax : v.toNat ≤ 255 := Nat.le_of_lt_succ v.isLt
  rw [bandOf_eq]
  cases b with
  | low | mid | high => simp only [bandRange]; grind

/-- A range check finds its band exactly for the readings of that band (R109). -/
theorem checkBand_eq (v : Byte) (found : Option Band) (b : Band) :
    checkBand v found b = if bandOf v = b then some b else found := by
  simp [checkBand, bandOf_eq_iff]

/-- Of the three checks the one of the reading's band answers, and no later one replaces it (R108, R109). -/
theorem bandByChecks_eq (v : Byte) : bandByChecks v = some (bandOf v) := by
  simp only [bandByChecks, List.foldl, checkBand_eq]
  cases bandOf v <;> rfl

/-- The numbers of an interval counted among the first `m`. -/
theorem countP_range_interval {p : Nat → Bool} {lo hi m : Nat} (hhi : hi < m)
    (hp : ∀ n < m, p n = true ↔ lo ≤ n ∧ n ≤ hi) : (List.range m).countP p = hi + 1 - lo := by
  have hperm : ((List.range m).filter p).Perm (List.range' lo (hi + 1 - lo)) := by
    refine (List.perm_ext_iff_of_nodup (List.nodup_range.filter _) List.nodup_range').mpr fun n => ?_
    rw [List.mem_filter, List.mem_range, List.mem_range'_1]
    constructor
    · rintro ⟨hn, h⟩
      have := (hp n hn).mp h
      omega
    · intro h
      exact ⟨by omega, (hp n (by omega)).mpr (by omega)⟩
  rw [List.countP_eq_length_filter, hperm.length_eq, List.length_range']

/-- A band has as many readings as its range has numbers (R108). -/
theorem countP_bandOf (b : Band) :
    (List.range 256).countP (fun n => bandOf (BitVec.ofNat 8 n) = b) = (bandRange b).2 + 1 - (bandRange b).1 := by
  refine countP_range_interval (by cases b <;> decide) fun n hn => ?_
  rw [decide_eq_true_iff, bandOf_eq_iff, BitVec.toNat_ofNat, Nat.mod_eq_of_lt hn]

/-- Settles O22: the ranges of the bands, their sizes, and the three checks. -/
theorem bandsPartitionTheReadings : Obligations.BandsPartitionTheReadings := by
  refine ⟨fun v => ⟨fun h => ?_, fun h h' => ?_, fun h => ?_, bandByChecks_eq v⟩, countP_bandOf .low,
    countP_bandOf .mid, countP_bandOf .high⟩
  · exact (bandOf_eq_iff v .low).mpr ⟨Nat.zero_le _, h⟩
  · exact (bandOf_eq_iff v .mid).mpr ⟨h, h'⟩
  · exact (bandOf_eq_iff v .high).mpr ⟨h, Nat.le_of_lt_succ v.isLt⟩

end Sys2Proof.Machine
end

section
/-! SUPPORT. The published set: in atomic mode it is a whole row from the first `CONV` on (R106); in split mode the row of
the publish in progress is settled element by element, and is whole when no mark is left (R61, R111); either way it is
the row of the newest result at the `CONV` (R110, R117). -/

namespace Sys2Proof.Machine

/-! ### Atomic mode -/

/-- In atomic mode an operation other than a reset leaves the set alone, or is a `CONV` and latches a whole row (R106). -/
theorem effect_pat_atomic {i : Instr} {s : State} (hm : s.cfg.publishMode = .atomic) (hr : i ≠ .rst)
    (ht : transits i s = true) : (effect i s).pat = s.pat ∨ (i = .conv ∧ WholeRow (effect i s)) := by
  obtain e | ⟨-, hi, hrow⟩ | ⟨hsplit, -⟩ := effect_pat_cases hr ht
  · exact .inl e
  · exact .inr ⟨hi, hrow⟩
  · simp [hm] at hsplit

/-- After a `CONV` of the trace the set is a whole row to its end (R42 item (f)). -/
theorem wholeRow_of_leads_atomic {p : Trace} {s t : State} (hm : s.cfg.publishMode = .atomic) (hr : .rst ∉ p)
    (hc : .conv ∈ p) (h : Leads p s t) : WholeRow t := by
  refine (leads_established (P := fun u => u.cfg = s.cfg ∧ WholeRow u) h hc ?_ ?_).2
  · rintro u hcfg -
    exact ⟨by rw [effect_cfg, hcfg], bandOf u.cdata, by rw [effect_conv_atomic (hcfg ▸ hm)]⟩
  · rintro i hi u ⟨hcfg, hrow⟩ ht
    refine ⟨by rw [effect_cfg, hcfg], ?_⟩
    obtain e | ⟨-, hrow'⟩ := effect_pat_atomic (hcfg ▸ hm) (ne_of_mem_of_not_mem hi hr) ht
    · rwa [WholeRow, e]
    · exact hrow'

/-- Without a `CONV` the trace leaves the set as it was (R42 item (f)). -/
theorem pat_of_leads_atomic {p : Trace} {s t : State} (hm : s.cfg.publishMode = .atomic) (hr : .rst ∉ p)
    (hc : .conv ∉ p) (h : Leads p s t) : t.pat = s.pat := by
  refine (leads_induction (P := fun u => u.cfg = s.cfg ∧ u.pat = s.pat) h ⟨rfl, rfl⟩ ?_).2
  rintro i hi u ⟨hcfg, hpat⟩ ht
  refine ⟨by rw [effect_cfg, hcfg], ?_⟩
  obtain e | ⟨rfl, -⟩ := effect_pat_atomic (hcfg ▸ hm) (ne_of_mem_of_not_mem hi hr) ht
  · exact e.trans hpat
  · exact absurd hi hc

/-- Settles O28: the latch of one `CONV`, and what a trace keeps of it. -/
theorem atomicSetIsNeverTorn : Obligations.AtomicSetIsNeverTorn := by
  refine ⟨fun s t hm hconv i => ?_,
    fun p s t hm hr h => ⟨fun hc => ?_, fun hc => pat_of_leads_atomic hm hr hc h⟩⟩
  · obtain ⟨-, rfl⟩ := (exec_next_iff .conv s t).mp hconv
    rw [effect_conv_atomic hm]
    rfl
  · obtain ⟨b, hb⟩ := wholeRow_of_leads_atomic hm hr hc h
    exact ⟨b, fun i => by rw [hb]; rfl⟩

/-! ### Split mode -/

/-- A publish of the band's row is in progress or finished: `PROW` holds its code, and every element whose mark is
cleared has the row's byte (R37, R111). -/
def Publishing (b : Band) (s : State) : Prop :=
  s.prow = bandCode b ∧ ∀ k, stillToWrite s.pubmask k = false → patRead s.pat k = rowRead b k

/-- `CONV` begins the publish: all four marks are set, so nothing is claimed of any element yet (R105). -/
theorem publishing_effect_conv {s : State} (hm : s.cfg.publishMode = .split) :
    Publishing (bandOf s.cdata) (effect .conv s) := by
  rw [effect_conv_split hm]
  exact ⟨rfl, fun k hk => by simp at hk⟩

/-- `PUBW k` clears the mark of the one element it writes (R111). -/
theorem publishing_effect_pubw {b : Band} {s : State} (h : Publishing b s) (k : Digit) :
    Publishing b (effect (.pubw k) s) := by
  obtain ⟨hrow, hdone⟩ := h
  rw [effect_pubw k hrow]
  refine ⟨hrow, fun j hj => ?_⟩
  rw [writeElement_pubmask, stillToWrite_clearMark] at hj
  rw [writeElement_pat, patRead_patWrite]
  split
  · next e => rw [e]
  · next hne => exact hdone j (by simpa [hne] using hj)

/-- Until the next `CONV` or a reset every operation keeps the publish (R111). -/
theorem publishing_effect {b : Band} {i : Instr} {s : State} (h : Publishing b s) (hr : i ≠ .rst) (hc : i ≠ .conv) :
    Publishing b (effect i s) := by
  by_cases hp : ∃ k, i = .pubw k
  · obtain ⟨k, rfl⟩ := hp
    exact publishing_effect_pubw h k
  · have hp := not_exists.mp hp
    unfold Publishing
    rwa [effect_prow s hr hc, effect_pubmask s hr hc hp, effect_pat s hr hc hp]

/-- With no mark left the set is the whole row. -/
theorem Publishing.pat_of_no_marks {b : Band} {s : State} (h : Publishing b s) (hmask : s.pubmask = 0) :
    s.pat = row b :=
  patterns_ext fun k => h.2 k ((marks_zero_iff s.pubmask).mp hmask k)

/-- Settles O52: the publish a `CONV` begins is kept by the trace, and is the whole row once no mark is left. -/
theorem splitPublishEndsInTheWholeRow : Obligations.SplitPublishEndsInTheWholeRow := by
  intro p s t hm hr hc h hmask
  obtain ⟨-, hp⟩ := (leads_cons .conv p s t).mp h
  have hpub : Publishing (bandOf s.cdata) t :=
    leads_induction hp (publishing_effect_conv hm) fun i hi u hu _ =>
      publishing_effect hu (ne_of_mem_of_not_mem hi hr) (ne_of_mem_of_not_mem hi hc)
  exact hpub.pat_of_no_marks hmask

/-! ### Four element writes in any order -/

/-- Until the next `CONV` a written element stays written: no mark is set again (R37, R111). -/
theorem stillToWrite_effect {i : Instr} {s : State} {k : Digit} (hm : stillToWrite s.pubmask k = false)
    (hc : i ≠ .conv) : stillToWrite (effect i s).pubmask k = false := by
  by_cases hr : i = .rst
  · subst hr
    exact stillToWrite_zero k
  by_cases hp : ∃ j, i = .pubw j
  · obtain ⟨j, rfl⟩ := hp
    rw [effect, writeElement_pubmask, stillToWrite_clearMark, hm, Bool.false_and]
  · rwa [effect_pubmask s hr hc (not_exists.mp hp)]

/-- Element writes that name every position leave no mark. -/
theorem pubmask_of_leads_pubw {order : List Digit} {s t : State} (hall : ∀ k, k ∈ order)
    (h : Leads (order.map .pubw) s t) : t.pubmask = 0 := by
  refine (marks_zero_iff t.pubmask).mpr fun k => ?_
  refine leads_established (x := .pubw k) (P := fun u => stillToWrite u.pubmask k = false) h
    (List.mem_map_of_mem (hall k)) (fun u _ _ => stillToWrite_effect_pubw k u) fun i hi u hu _ => ?_
  refine stillToWrite_effect hu ?_
  rintro rfl
  simp at hi

/-- Element writes of different positions, each with its mark set, run to their end (R111). -/
theorem exists_leads_pubw {order : List Digit} {s : State} (hmode : s.cfg.publishMode = .split) (hrow : s.prow ≠ 3#2)
    (hmarks : ∀ k ∈ order, stillToWrite s.pubmask k = true) (hdistinct : order.Nodup) :
    ∃ t, Leads (order.map .pubw) s t := by
  induction order generalizing s with
  | nil => exact ⟨s, rfl⟩
  | cons k order ih =>
    obtain ⟨hk, hrest⟩ := List.nodup_cons.mp hdistinct
    have hmarks' : ∀ j ∈ order, stillToWrite (effect (.pubw k) s).pubmask j = true := fun j hj => by
      have hne : j ≠ k := ne_of_mem_of_not_mem hj hk
      rw [effect, writeElement_pubmask, stillToWrite_clearMark, hmarks j (List.mem_cons_of_mem k hj)]
      simpa using hne
    obtain ⟨t, ht⟩ := ih (s := effect (.pubw k) s) hmode hrow hmarks' hrest
    have hfirst := (transits_pubw_iff k s).mpr ⟨hmode, hmarks k List.mem_cons_self, hrow⟩
    exact ⟨t, (leads_cons _ _ _ _).mpr ⟨hfirst, ht⟩⟩

theorem mem_of_perm_positions {order : List Digit} (h : order.Perm [0, 1, 2, 3]) (k : Digit) : k ∈ order :=
  h.mem_iff.mpr (by revert k; decide)

/-- With a result pending and no tick, a split publish runs to its end in any order (R105, R111). -/
theorem exists_leads_publish {order : List Digit} {s : State} (hmode : s.cfg.publishMode = .split)
    (hperm : order.Perm [0, 1, 2, 3]) (hgie : s.gie = true) (hpend : s.cpend = true) (hmask : s.pubmask = 0)
    (htick : s.tpend = false) : ∃ t, Leads (.conv :: order.map .pubw) s t := by
  have hconv : effect .conv s = _ := effect_conv_split hmode
  have hrow : (effect .conv s).prow ≠ 3#2 := by rw [hconv]; exact bandCode_ne_three _
  have hmarks : ∀ k ∈ order, stillToWrite (effect .conv s).pubmask k = true := fun k _ => by
    rw [hconv]; exact stillToWrite_all k
  obtain ⟨t, ht⟩ := exists_leads_pubw (by rwa [effect_cfg]) hrow hmarks (hperm.nodup_iff.mpr (by decide))
  exact ⟨t, (leads_cons _ _ _ _).mpr ⟨(convHandler_iff s).mpr ⟨hgie, hpend, hmask, fun _ => htick⟩, ht⟩⟩

/-- Settles O51: the result that `ADCDONE` latches is the one `CONV` classifies; in split mode its publish is finished
when the four writes have named every position. -/
theorem publishedSetIsTheBandsRow : Obligations.PublishedSetIsTheBandsRow := by
  refine ⟨fun s v t hm h => ?_, fun s v order t hm hperm h => ?_,
    fun s v order hm hperm hgie hstarted hbusy hmask htick => ?_⟩
  · simp only [Pseudo.expand, leads_cons, leads_nil] at h
    obtain ⟨-, -, rfl⟩ := h
    rw [effect_conv_atomic (by rwa [effect_cfg])]
    rfl
  · obtain ⟨-, hconv⟩ := (leads_cons _ _ _ _).mp h
    obtain ⟨-, hwrites⟩ := (leads_cons _ _ _ _).mp hconv
    have hmask := pubmask_of_leads_pubw (mem_of_perm_positions hperm) hwrites
    have hpat := splitPublishEndsInTheWholeRow _ (effect (.adcdone v) s) t hm (by simp) (by simp) hconv hmask
    exact ⟨hpat, hmask⟩
  · obtain ⟨t, ht⟩ := exists_leads_publish (s := effect (.adcdone v) s) hm hperm hgie rfl hmask htick
    have hfirst := (adcdoneEnabled_iff s).mpr ⟨fun _ => hstarted, fun _ => hbusy⟩
    exact ⟨t, (leads_cons _ _ _ _).mpr ⟨hfirst, ht⟩⟩

/-! ### Overrun -/

/-- Without a further result or a reset the newest result stays (R36). -/
theorem cdata_of_leads {p : Trace} {s t : State} (hr : .rst ∉ p) (hd : ∀ v, .adcdone v ∉ p) (h : Leads p s t) :
    t.cdata = s.cdata :=
  leads_induction (P := fun u => u.cdata = s.cdata) h rfl fun _ hi u hu _ =>
    (effect_cdata u (ne_of_mem_of_not_mem hi hr) fun v => ne_of_mem_of_not_mem hi (hd v)).trans hu

/-- Settles O53: `CDATA` holds the second result when the `CONV` runs, and `CONV` classifies what it then holds. -/
theorem overrunClassifiesTheNewestResult : Obligations.OverrunClassifiesTheNewestResult := by
  intro a b v w s t _ _ hr _ hd h
  obtain ⟨u, hu, hconv⟩ := (leads_append _ _ _ _).mp h
  obtain ⟨u₁, -, hsecond⟩ := (leads_append _ _ _ _).mp hu
  obtain ⟨-, hb⟩ := (leads_cons _ _ _ _).mp hsecond
  have hdata : u.cdata = w := cdata_of_leads hr hd hb
  have hcfg : u.cfg = s.cfg := leads_cfg hu
  simp only [leads_cons, leads_nil] at hconv
  obtain ⟨-, rfl⟩ := hconv
  subst hdata
  refine ⟨fun hm => ?_, fun hm => ?_⟩
  · rw [effect_conv_atomic (hcfg ▸ hm)]
  · rw [effect_conv_split (hcfg ▸ hm)]
    exact ⟨rfl, rfl⟩

end Sys2Proof.Machine
end

section
/-! SUPPORT. How two configurations compare: every `one_shot` trace is a `free` one (R104), and every atomic-mode trace
is, with the element writes put in and but for `PROW`, a split-mode one, while split mode alone tears the set (R112). -/

namespace Sys2Proof.Machine

/-! ### `one_shot` and `free` -/

/-- The same state under `ADC_MODEL = free`. -/
def State.underFree (s : State) : State := s.withCfg { s.cfg with adcModel := .free }

/-- A conversion in flight has been requested (R42 item (e)). -/
def BusyStarted (s : State) : Prop := s.adbusy = true → s.adstarted = true

theorem busyStarted_effect {i : Instr} {s : State} (h : BusyStarted s) : BusyStarted (effect i s) := by
  cases i with
  | rst => exact nofun
  | adcdone v => exact nofun
  | trig => exact fun _ => rfl
  | conv =>
    cases hm : s.cfg.publishMode with
    | atomic => rw [effect_conv_atomic hm]; exact h
    | split => rw [effect_conv_split hm]; exact h
  | _ => exact h

/-- What is a transition under `one_shot` is one under `free`: only `ADCDONE` asks for the model, and a conversion in
flight has been requested (R104). -/
theorem transits_underFree {i : Instr} {s : State} (hmodel : s.cfg.adcModel = .oneShot) (hbusy : BusyStarted s)
    (ht : transits i s = true) : transits i s.underFree = true := by
  cases i with
  | adcdone v =>
    obtain ⟨-, hshot⟩ := (adcdoneEnabled_iff s).mp ht
    exact hbusy (hshot hmodel)
  | _ => exact ht

/-- No effect depends on the model (R104). -/
theorem effect_underFree (i : Instr) (s : State) : effect i s.underFree = (effect i s).underFree := by
  cases i with
  | conv =>
    cases hm : s.cfg.publishMode with
    | atomic => rw [effect_conv_atomic hm, effect_conv_atomic (s := s.underFree) hm]; rfl
    | split => rw [effect_conv_split hm, effect_conv_split (s := s.underFree) hm]; rfl
  | _ => rfl

theorem leads_underFree {p : Trace} {s t : State} (hmodel : s.cfg.adcModel = .oneShot) (hbusy : BusyStarted s)
    (h : Leads p s t) : Leads p s.underFree t.underFree := by
  induction p generalizing s with
  | nil =>
    obtain rfl := (leads_nil s t).mp h
    rfl
  | cons i p ih =>
    obtain ⟨ht, hp⟩ := (leads_cons i p s t).mp h
    refine (leads_cons i p _ _).mpr ⟨transits_underFree hmodel hbusy ht, ?_⟩
    rw [effect_underFree]
    exact ih (by rwa [effect_cfg]) (busyStarted_effect hbusy) hp

/-- Settles O54: operation by operation, the `free` run goes along with the `one_shot` one. -/
theorem oneShotTracesAreFreeTraces : Obligations.OneShotTracesAreFreeTraces := by
  intro p s t hmodel hbusy h
  have hfree : Leads p s.underFree t.underFree := leads_underFree hmodel hbusy h
  rwa [State.underFree, State.underFree, leads_cfg h] at hfree

/-! ### Atomic and split mode -/

/-- The split-mode state that goes along with an atomic-mode one: the same but for the mode and for `PROW`, which only a
split publish writes (R112). -/
def State.inSplit (s : State) (r : BitVec 2) : State :=
  { s.withCfg { s.cfg with publishMode := .split } with prow := r }

theorem withElementWrites_conv (p : Trace) :
    withElementWrites (.conv :: p) = [.conv, .pubw 0, .pubw 1, .pubw 2, .pubw 3] ++ withElementWrites p := rfl

theorem withElementWrites_of_ne {i : Instr} (p : Trace) (h : i ≠ .conv) :
    withElementWrites (i :: p) = i :: withElementWrites p := by
  simp [withElementWrites, h]

/-- In atomic mode no operation opens a split publish (R37). -/
theorem pubmask_effect_atomic {i : Instr} {s : State} (hm : s.cfg.publishMode = .atomic) (hmask : s.pubmask = 0)
    (ht : transits i s = true) : (effect i s).pubmask = 0 := by
  cases i with
  | rst => rfl
  | conv => rw [effect_conv_atomic hm]; exact hmask
  | pubw k => simp [transits_pubw_iff, hm] at ht
  | _ => exact hmask

/-- Every operation of atomic mode but `CONV` runs alike in split mode (R112). -/
theorem leads_inSplit_of_ne_conv {i : Instr} {s : State} (r : BitVec 2) (hm : s.cfg.publishMode = .atomic)
    (hc : i ≠ .conv) (ht : transits i s = true) : ∃ r', Leads [i] (s.inSplit r) ((effect i s).inSplit r') := by
  simp only [leads_cons, leads_nil]
  cases i with
  | conv => exact absurd rfl hc
  | pubw k => simp [transits_pubw_iff, hm] at ht
  | rst => exact ⟨0, ht, rfl⟩
  | _ => exact ⟨r, ht, rfl⟩

/-- The four element writes after a split `CONV` make the whole row, whatever the set was, and leave no mark (R111). -/
theorem writeElement_four (b : Band) {s : State} (hmask : s.pubmask = 15#4) :
    writeElement b 3 (writeElement b 2 (writeElement b 1 (writeElement b 0 s))) =
      { s with pat := row b, pubmask := 0 } := by
  have hmarks : clearMark (clearMark (clearMark (clearMark s.pubmask 0) 1) 2) 3 = 0 := by rw [hmask]; decide
  rw [← hmarks]
  rfl

/-- Right after a split `CONV` they are all enabled, one after the other (R111). -/
theorem leads_four_pubw {b : Band} {s : State} (hmode : s.cfg.publishMode = .split) (hrow : s.prow = bandCode b)
    (hmask : s.pubmask = 15#4) :
    Leads [.pubw 0, .pubw 1, .pubw 2, .pubw 3] s { s with pat := row b, pubmask := 0 } := by
  rw [← writeElement_four b hmask]
  simp [leads_cons, transits_pubw_iff, effect_pubw (b := b), stillToWrite_clearMark, hmode, hrow, hmask]

/-- An atomic `CONV` is a split one with its four element writes (R112). -/
theorem leads_inSplit_conv {s : State} (r : BitVec 2) (hm : s.cfg.publishMode = .atomic) (hmask : s.pubmask = 0)
    (ht : transits .conv s = true) :
    ∃ r', Leads [.conv, .pubw 0, .pubw 1, .pubw 2, .pubw 3] (s.inSplit r) ((effect .conv s).inSplit r') := by
  have hsplit : effect .conv (s.inSplit r) = _ := effect_conv_split rfl
  have hwrites : Leads [.pubw 0, .pubw 1, .pubw 2, .pubw 3] (effect .conv (s.inSplit r))
      { effect .conv (s.inSplit r) with pat := row (bandOf s.cdata), pubmask := 0 } :=
    leads_four_pubw (by simp [State.inSplit]) (by rw [hsplit]; rfl) (by rw [hsplit])
  refine ⟨bandCode (bandOf s.cdata), (leads_cons _ _ _ _).mpr ⟨ht, ?_⟩⟩
  rw [effect_conv_atomic hm]
  rw [hsplit, ← hmask] at hwrites
  exact hwrites

/-- The simulation: with the element writes put in, an atomic-mode trace runs in split mode (R112). -/
theorem leads_withElementWrites {p : Trace} {s t : State} (r : BitVec 2) (hm : s.cfg.publishMode = .atomic)
    (hmask : s.pubmask = 0) (h : Leads p s t) : ∃ r', Leads (withElementWrites p) (s.inSplit r) (t.inSplit r') := by
  induction p generalizing s r with
  | nil =>
    obtain rfl := (leads_nil s t).mp h
    exact ⟨r, rfl⟩
  | cons i p ih =>
    obtain ⟨ht, hp⟩ := (leads_cons i p s t).mp h
    have hrest := fun r' => ih r' (by rwa [effect_cfg]) (pubmask_effect_atomic hm hmask ht) hp
    by_cases hc : i = .conv
    · subst hc
      obtain ⟨r₁, hfirst⟩ := leads_inSplit_conv r hm hmask ht
      obtain ⟨r₂, hlast⟩ := hrest r₁
      exact ⟨r₂, withElementWrites_conv p ▸ (leads_append _ _ _ _).mpr ⟨_, hfirst, hlast⟩⟩
    · obtain ⟨r₁, hfirst⟩ := leads_inSplit_of_ne_conv r hm hc ht
      obtain ⟨r₂, hlast⟩ := hrest r₁
      exact ⟨r₂, withElementWrites_of_ne p hc ▸ (leads_append [i] _ _ _).mpr ⟨_, hfirst, hlast⟩⟩

/-- R7's defaults in split mode. -/
def splitStandard : Config := { Config.standard with publishMode := .split }

/-- A split-mode run that stops after the first element write of its first publish. -/
def tornTrace : Trace := .init :: startCycleOps ++ [.adcdone 0, .conv, .pubw 0]

/-- Where that run ends: one element of the row for Low, three reset values. -/
def tornState : State :=
  { State.afterReset splitStandard ResetDraw.zero with
    pat := { d0 := 0x7C, d1 := 0, d2 := 0, d3 := 0 }
    phase := 3
    aden := true
    gie := true
    run := true
    pubmask := 0b1110
    adstarted := true
    adcStarts := 1 }

theorem leads_tornTrace : Leads tornTrace (State.afterReset splitStandard ResetDraw.zero) tornState :=
  rfl

theorem not_wholeRow_tornState : ¬ WholeRow tornState := by
  rintro ⟨b, hb⟩
  cases b <;> simp [tornState, row] at hb

/-- Settles O56: the simulation; the run that tears the set; and the invariant of atomic mode, which no run leaves. -/
theorem atomicRunsAreSplitRuns : Obligations.AtomicRunsAreSplitRuns := by
  refine ⟨fun p s t hm hmask h => ?_,
    ⟨splitStandard, tornTrace, tornState, rfl, leads_tornTrace, by decide, not_wholeRow_tornState⟩,
    fun cfg d p t hm h => ?_⟩
  · obtain ⟨r, hr⟩ := leads_withElementWrites s.prow hm hmask h
    rw [State.inSplit, State.inSplit, leads_cfg h] at hr
    exact ⟨r, hr⟩
  · obtain ⟨-, -, hpat, -⟩ := safeState_of_leads (safeState_afterReset cfg d) h
    have hcfg : t.cfg = cfg := leads_cfg h
    simpa only [PatternInv, hcfg, hm] using hpat

end Sys2Proof.Machine
end

section
/-! SUPPORT. The sequencer's fixed loop (R120, R126): which of the sequencer's operations is enabled (R125), how much of
the running iteration is still to come, and from these the order of its transitions in every trace and its return to
`SELDIG` in every fair run (R136, R201). -/

namespace Sys2Proof.Machine

/-! ### The one enabled operation -/

theorem encode_injective {i j : Instr} (h : encode i = encode j) : i = j := by
  have hdec : decode (encode i) = decode (encode j) := by rw [h]
  simpa using hdec

/-- A sequencer operation is known by its phase (R74). -/
theorem wordPhase_injective {i j : Instr} (hi : i.isSeq = true) (hj : j.isSeq = true)
    (h : wordPhase i = wordPhase j) : i = j :=
  encode_injective (by rw [encode_seq hi, encode_seq hj, h])

theorem isSeq_iff (i : Instr) : i.isSeq = true ↔ i.agent = .seq := beq_iff_eq

/-- A sequencer operation is a transition exactly when it is enabled. -/
theorem transits_eq_enabled_of_isSeq {i : Instr} (hi : i.isSeq = true) (s : State) :
    transits i s = enabled i s :=
  transits_eq_enabled s (by rintro k rfl; cases hi)

/-- In a running state some operation of the sequencer is a transition, phase 7 apart (R125). -/
theorem exists_seq_transits {s : State} (hrun : s.run = true) (h7 : s.phase ≠ 7) :
    ∃ i : Instr, i.isSeq = true ∧ transits i s = true := by
  obtain ⟨i, -, hi, hphase⟩ := exists_seq_wordPhase s.phase h7
  exact ⟨i, hi, (transits_seq_iff hi s).mpr ⟨hrun, hphase.symm⟩⟩

/-- No two of them are (R125). -/
theorem seq_transits_unique {i j : Instr} {s : State} (hi : i.isSeq = true) (hj : j.isSeq = true)
    (hti : transits i s = true) (htj : transits j s = true) : j = i := by
  obtain ⟨-, hphase⟩ := (transits_seq_iff hi s).mp hti
  obtain ⟨-, hphase'⟩ := (transits_seq_iff hj s).mp htj
  exact wordPhase_injective hj hi (hphase'.symm.trans hphase)

/-- Only a reset clears `RUN` (R125). -/
theorem effect_run_of_run {i : Instr} {s : State} (hr : i ≠ .rst) (h : s.run = true) : (effect i s).run = true := by
  by_cases hi : i = .init
  · subst hi; rfl
  · rw [effect_run s hr hi, h]

theorem stuck_seq_iff (s : State) : Stuck .seq s ↔ s.run = false ∨ s.phase = 7 := by
  constructor
  · intro hstuck
    cases hrun : s.run with
    | false => exact .inl rfl
    | true =>
      refine .inr (Decidable.byContradiction fun h7 => ?_)
      obtain ⟨i, hi, ht⟩ := exists_seq_transits hrun h7
      have hstays := hstuck i ((isSeq_iff i).mp hi)
      simp [enabled_of_transits ht] at hstays
  · intro hstopped i hagent
    have hi := (isSeq_iff i).mpr hagent
    rw [← transits_eq_enabled_of_isSeq hi, Bool.eq_false_iff, ne_eq, transits_seq_iff hi]
    rintro ⟨hrun, hphase⟩
    obtain hstop | h7 := hstopped
    · simp [hrun] at hstop
    · exact wordPhase_ne_seven hi (hphase.symm.trans h7)

/-- Settles O41: one operation at a time by `transits_seq_iff`, which ties each to its own phase. -/
theorem sequencerIsNeverStuck : Obligations.SequencerIsNeverStuck := by
  refine ⟨stuck_seq_iff, fun s hrun h7 => ?_, fun i s t h hr hrun => ?_⟩
  · obtain ⟨i, hi, ht⟩ := exists_seq_transits hrun h7
    refine ⟨i, _, (isSeq_iff i).mp hi, exec_of_transits ht, ?_⟩
    rintro j hj ⟨u, hu⟩
    exact seq_transits_unique hi ((isSeq_iff j).mpr hj) ht ((exec_next_iff j s u).mp hu).1
  · obtain ⟨-, rfl⟩ := (exec_next_iff i s t).mp h
    exact effect_run_of_run hr hrun

/-! ### What is left of the iteration -/

/-- The settling count has not run out while it is being waited for (R42 item (c)). -/
def DelayLoaded (s : State) : Prop := s.phase = 1 → 1 ≤ s.dly

theorem delayLoaded_effect {i : Instr} {s : State} (h : DelayLoaded s) : DelayLoaded (effect i s) := by
  cases i with
  | arm => exact fun _ => (by decide : 1 ≤ settle)
  | wait =>
    unfold DelayLoaded
    rw [effect, waitUnit_phase, waitUnit_dly]
    split
    · exact nofun
    · intro _; bv_omega
  | rst | trig | rdcur | selpat | wrpat | seldig => exact nofun
  | conv =>
    cases hm : s.cfg.publishMode with
    | atomic => rw [effect_conv_atomic hm]; exact h
    | split => rw [effect_conv_split hm]; exact h
  | _ => exact h

/-- The sequencer's transitions from a state up to the end of the running iteration (R120). -/
def restOfIteration (s : State) : Trace :=
  if s.phase = 0 then iterationOps
  else if s.phase = 1 then List.replicate s.dly.toNat .wait ++ .trig :: showOps
  else (.trig :: showOps).drop (s.phase.toNat - 2)

theorem restOfIteration_phase_zero {s : State} (h : s.phase = 0) : restOfIteration s = iterationOps := if_pos h

theorem restOfIteration_phase_one {s : State} (h : s.phase = 1) :
    restOfIteration s = List.replicate s.dly.toNat .wait ++ .trig :: showOps := by
  simp [restOfIteration, h]

/-- The other agents do not move the sequencer along its iteration (R120). -/
theorem restOfIteration_of_other {i : Instr} {s : State} (hi : i.isSeq = false) (hr : i ≠ .rst) :
    restOfIteration (effect i s) = restOfIteration s := by
  obtain ⟨hphase, hdly, -⟩ := effect_of_other s hi hr
  simp only [restOfIteration, hphase, hdly]

/-- A `WAIT` is one of the waits left, and the last of them leads to `TRIG` (R101). -/
theorem restOfIteration_wait {s : State} (hphase : s.phase = 1) (hdly : 1 ≤ s.dly) :
    restOfIteration s = .wait :: restOfIteration (effect .wait s) := by
  have hcount : s.dly.toNat = (effect .wait s).dly.toNat + 1 := by simp only [effect, waitUnit_dly]; bv_omega
  have hnext : (effect .wait s).phase = if (effect .wait s).dly = 0 then 2 else 1 := rfl
  rw [restOfIteration_phase_one hphase, hcount, List.replicate_succ, List.cons_append]
  by_cases hlast : (effect .wait s).dly = 0
  · rw [if_pos hlast] at hnext
    simp [restOfIteration, hnext, hlast]
  · rw [if_neg hlast] at hnext
    rw [restOfIteration_phase_one hnext]

/-- A transition of the sequencer is the next one of the iteration, and `SELDIG` the last (R120). -/
theorem restOfIteration_of_seq {i : Instr} {s : State} (hi : i.isSeq = true) (hs : DelayLoaded s)
    (ht : transits i s = true) :
    restOfIteration s = i :: if i = .seldig then [] else restOfIteration (effect i s) := by
  obtain ⟨-, hphase⟩ := (transits_seq_iff hi s).mp ht
  cases i with
  | wait => exact restOfIteration_wait hphase (hs hphase)
  | arm => simp [restOfIteration, effect, hphase, wordPhase, encode, assemble, iterationOps, startCycleOps]
  | trig | rdcur | selpat | wrpat | seldig =>
    simp [restOfIteration, effect, hphase, wordPhase, encode, assemble, showOps]
  | _ => cases hi

/-! ### In a trace -/

theorem replicate_succ_iterationOps (n : Nat) :
    (List.replicate (n + 1) iterationOps).flatten = iterationOps ++ (List.replicate n iterationOps).flatten := rfl

/-- The sequencer's transitions complete the running iteration and then go through the whole one over and over, by
induction over the trace. -/
theorem seqOps_prefix_of_leads {p : Trace} {s t : State} (hr : .rst ∉ p) (hs : DelayLoaded s) (h : Leads p s t) :
    ∃ n, seqOps p <+: restOfIteration s ++ (List.replicate n iterationOps).flatten := by
  induction p generalizing s with
  | nil => exact ⟨0, List.nil_prefix⟩
  | cons i p ih =>
    obtain ⟨ht, hp⟩ := (leads_cons i p s t).mp h
    obtain ⟨hi, hrp⟩ := ne_and_notMem_of_rst_notMem_cons hr
    obtain ⟨n, hn⟩ := ih hrp (delayLoaded_effect hs) hp
    cases hseq : i.isSeq with
    | false => exact ⟨n, by simpa [seqOps, hseq, restOfIteration_of_other hseq hi] using hn⟩
    | true =>
      have hops : seqOps (i :: p) = i :: seqOps p := by simp [seqOps, hseq]
      by_cases hlast : i = .seldig
      · have hwhole : restOfIteration (effect i s) = iterationOps := by subst hlast; rfl
        refine ⟨n + 1, ?_⟩
        rw [hwhole, ← replicate_succ_iterationOps] at hn
        rw [hops, restOfIteration_of_seq hseq hs ht, if_pos hlast]
        exact (List.prefix_cons_inj i).mpr hn
      · refine ⟨n, ?_⟩
        rw [hops, restOfIteration_of_seq hseq hs ht, if_neg hlast]
        exact (List.prefix_cons_inj i).mpr hn

/-- Settles O43: at phase 0 the iteration still to come is a whole one. -/
theorem sequencerFollowsTheFixedLoop : Obligations.SequencerFollowsTheFixedLoop := by
  intro p s t hr hphase h
  have hs : DelayLoaded s := by simp [DelayLoaded, hphase]
  obtain ⟨n, hn⟩ := seqOps_prefix_of_leads hr hs h
  rw [restOfIteration_phase_zero hphase] at hn
  exact ⟨n + 1, hn⟩

/-! ### In an unending run -/

/-- Each point of a run is a transition. -/
theorem Run.transits_and_next (r : Run) (n : Nat) :
    transits (r.ops n) (r.states n) = true ∧ effect (r.ops n) (r.states n) = r.states (n + 1) :=
  (exec_next_iff _ _ _).mp (r.steps n)

/-- The induction over a run: what one point has and every operation of the run keeps, every later point has. -/
theorem Run.induction (r : Run) {P : State → Prop} {n m : Nat} (hnm : n ≤ m) (hn : P (r.states n))
    (keep : ∀ k, P (r.states k) → P (effect (r.ops k) (r.states k))) : P (r.states m) := by
  induction hnm with
  | refl => exact hn
  | step _ ih =>
    rw [← (r.transits_and_next _).2]
    exact keep _ ih

theorem Run.run_of_run (r : Run) {n m : Nat} (hr : ∀ m, r.ops m ≠ .rst) (hnm : n ≤ m)
    (hrun : (r.states n).run = true) : (r.states m).run = true :=
  r.induction (P := fun s => s.run = true) hnm hrun fun k => effect_run_of_run (hr k)

/-- Up to the first move of the sequencer its iteration stands where it did, by induction on how far off a move is. -/
theorem Run.exists_first_seq {r : Run} (hr : ∀ m, r.ops m ≠ .rst) (d n : Nat) (hseq : (r.ops (n + d)).isSeq = true) :
    ∃ m, n ≤ m ∧ (r.ops m).isSeq = true ∧ restOfIteration (r.states m) = restOfIteration (r.states n) := by
  induction d generalizing n with
  | zero => exact ⟨n, Nat.le_refl n, hseq, rfl⟩
  | succ d ih =>
    cases hnow : (r.ops n).isSeq with
    | true => exact ⟨n, Nat.le_refl n, hnow, rfl⟩
    | false =>
      have hlater : n + 1 + d = n + (d + 1) := by omega
      obtain ⟨m, hnm, hm, hrest⟩ := ih (n + 1) (hlater ▸ hseq)
      refine ⟨m, Nat.le_of_succ_le hnm, hm, ?_⟩
      rw [hrest, ← (r.transits_and_next n).2, restOfIteration_of_other hnow (hr n)]

/-- A running machine of a fair run moves its sequencer (R136). -/
theorem Run.exists_next_seq {r : Run} {n : Nat} (hfair : r.SeqFair) (hr : ∀ m, r.ops m ≠ .rst)
    (hrun : (r.states n).run = true) :
    ∃ m, n ≤ m ∧ (r.ops m).isSeq = true ∧ restOfIteration (r.states m) = restOfIteration (r.states n) := by
  obtain ⟨m, hnm, hseq | hstop⟩ := hfair n hrun
  · obtain ⟨d, rfl⟩ := Nat.exists_eq_add_of_le hnm
    exact Run.exists_first_seq hr d n hseq
  · have hstays := r.run_of_run hr hnm hrun
    simp [hstays] at hstop

/-- In a fair run the iteration under way comes to its `SELDIG`, by induction on how much of it is left (R136). -/
theorem Run.exists_seldig {r : Run} {n : Nat} (hfair : r.SeqFair) (hr : ∀ m, r.ops m ≠ .rst)
    (hrun : (r.states n).run = true) (hs : DelayLoaded (r.states n)) : ∃ m, n ≤ m ∧ r.ops m = .seldig := by
  induction hleft : (restOfIteration (r.states n)).length using Nat.strongRecOn generalizing n with
  | ind left ih =>
    obtain ⟨m, hnm, hseq, hsame⟩ := Run.exists_next_seq hfair hr hrun
    have hs' : ∀ {k}, n ≤ k → DelayLoaded (r.states k) := fun hk =>
      r.induction hk hs fun _ => delayLoaded_effect
    obtain ⟨ht, hnext⟩ := r.transits_and_next m
    by_cases hlast : r.ops m = .seldig
    · exact ⟨m, hnm, hlast⟩
    · have hless : (restOfIteration (r.states (m + 1))).length < left := by
        have hhead := restOfIteration_of_seq hseq (hs' hnm) ht
        rw [if_neg hlast, hnext, hsame] at hhead
        simp [← hleft, hhead]
      obtain ⟨k, hk, hd⟩ := ih _ hless (r.run_of_run hr (Nat.le_succ_of_le hnm) hrun) (hs' (Nat.le_succ_of_le hnm)) rfl
      exact ⟨k, by omega, hd⟩

/-- Settles O59: a safe state has its settling count loaded, so `Run.exists_seldig` applies. -/
theorem displayPointsRecur : Obligations.DisplayPointsRecur := by
  intro r n hfair hr hrun hsafe
  obtain ⟨⟨-, -, hloaded, -⟩, -⟩ := hsafe
  exact Run.exists_seldig hfair hr hrun hloaded

end Sys2Proof.Machine
end

section
/-! SUPPORT. The four display steps one at a time (R121 to R124), and one undisturbed iteration as a whole (R103, R120). -/

namespace Sys2Proof.Machine

/-! ### Steps (2) to (5) -/

/-- Settles O18: `RDCUR` is the sequencer's operation of phase 3; no latch stands in its condition. -/
theorem rdcurReadsTheCursor : Obligations.RdcurReadsTheCursor :=
  ⟨rfl, decode_encode .rdcur, fun _ => exec_of_seqAt (i := .rdcur) rfl, fun _ => exec_of_not_seqAt rfl⟩

/-- Settles O19: `SELPAT` is the sequencer's operation of phase 4, and `patRead` reads the element each index names. -/
theorem selpatSelectsThePattern : Obligations.SelpatSelectsThePattern := by
  refine ⟨rfl, decode_encode .selpat, fun s hrun hphase => ⟨patRead s.pat s.idx, ?_, ?_, ?_, ?_,
    exec_of_seqAt (i := .selpat) rfl hrun hphase⟩, fun _ => exec_of_not_seqAt rfl⟩ <;>
    (intro hidx; rw [hidx]; rfl)

/-- Settles O20: `WRPAT` is the sequencer's operation of phase 5, and its effect is the one named. -/
theorem wrpatWritesTheSegments : Obligations.WrpatWritesTheSegments :=
  ⟨rfl, decode_encode .wrpat, fun _ => exec_of_seqAt (i := .wrpat) rfl, fun _ => exec_of_not_seqAt rfl⟩

/-- The line of position `c` is low and the other three are high (R82). -/
theorem getLsbD_onecold : ∀ c k : Digit, (onecold c).getLsbD k.toNat = decide (k ≠ c) := by decide

theorem selectIndex_cur {s : State} (h : s.cfg.selSrc = .cur) : selectIndex s = s.cur := by simp [selectIndex, h]

theorem selectIndex_idx {s : State} (h : s.cfg.selSrc = .idx) : selectIndex s = s.idx := by simp [selectIndex, h]

/-- While the Cursor is the position read first, `SEL_SRC` makes no difference (R134). -/
theorem selectIndex_of_cur_eq_idx {s : State} (h : s.cur = s.idx) : selectIndex s = s.idx := by
  cases hsrc : s.cfg.selSrc with
  | cur => rw [selectIndex_cur hsrc, h]
  | idx => exact selectIndex_idx hsrc

/-- Settles O21: `SELDIG` is the sequencer's operation of phase 6, and the position it selects is that of `SEL_SRC`. -/
theorem seldigDrivesOneLineLow : Obligations.SeldigDrivesOneLineLow := by
  refine ⟨rfl, decode_encode .seldig, fun s c hrun hphase hcur hidx => ⟨onecold c, getLsbD_onecold c, ?_⟩,
    fun _ => exec_of_not_seqAt rfl⟩
  have hc : selectIndex s = c := by
    cases hsrc : s.cfg.selSrc with
    | cur => rw [selectIndex_cur hsrc, hcur hsrc]
    | idx => rw [selectIndex_idx hsrc, hidx hsrc]
  rw [← hc]
  exact exec_of_seqAt (i := .seldig) rfl hrun hphase

/-! ### One iteration -/

/-- With a whole settling count of `WAIT` the delay runs down and nothing else changes (R101, R103). -/
theorem leads_wait {n : Nat} {s : State} (hrun : s.run = true) (hphase : s.phase = 1) (hdly : s.dly.toNat = n + 1) :
    Leads (List.replicate (n + 1) .wait) s { s with dly := 0, phase := 2 } := by
  induction n generalizing s with
  | zero =>
    refine (leads_cons _ _ _ _).mpr ⟨(transits_seq_iff rfl s).mpr ⟨hrun, hphase⟩, ?_⟩
    rw [effect_wait (by bv_omega), hdly]
    rfl
  | succ n ih =>
    refine (leads_cons _ _ _ _).mpr ⟨(transits_seq_iff rfl s).mpr ⟨hrun, hphase⟩, ?_⟩
    rw [effect_wait (by bv_omega), hdly]
    have hlt : n + 1 < 2 ^ 5 := by have := s.dly.isLt; omega
    exact ih hrun rfl (by simpa using Nat.mod_eq_of_lt hlt)

/-- `START_CYCLE` undisturbed (R103). -/
theorem leads_startCycleOps {s : State} (hrun : s.run = true) (hphase : s.phase = 0) :
    Leads startCycleOps s { s with
      aden := true, dly := 0, adcStarts := s.adcStarts + 1, adstarted := true, adbusy := true, phase := 3 } := by
  have harm : transits .arm s = true := (transits_seq_iff rfl s).mpr ⟨hrun, hphase⟩
  have hwaits : Leads (List.replicate settle.toNat .wait) (effect .arm s)
      { effect .arm s with dly := 0, phase := 2 } := leads_wait (n := 19) hrun rfl rfl
  have htrig : Leads [.trig] { effect .arm s with dly := 0, phase := 2 } _ :=
    (leads_cons _ _ _ _).mpr ⟨(transits_seq_iff rfl _).mpr ⟨hrun, rfl⟩, rfl⟩
  exact (leads_cons _ _ _ _).mpr ⟨harm, (leads_append _ _ _ _).mpr ⟨_, hwaits, htrig⟩⟩

/-- `SHOW` undisturbed: the Cursor is the position read first and the one selected, under either `SEL_SRC` (R129). -/
theorem leads_showOps {s : State} (hrun : s.run = true) (hphase : s.phase = 3) :
    Leads showOps s { s with
      idx := s.cur, pbuf := patRead s.pat s.cur, seg := patRead s.pat s.cur, dselN := onecold s.cur, phase := 0 } := by
  have hselect : selectIndex (effect .wrpat (effect .selpat (effect .rdcur s))) = s.cur :=
    selectIndex_of_cur_eq_idx rfl
  simp only [showOps, leads_cons, leads_nil]
  refine ⟨(transits_seq_iff rfl _).mpr ⟨hrun, hphase⟩, (transits_seq_iff rfl _).mpr ⟨hrun, rfl⟩,
    (transits_seq_iff rfl _).mpr ⟨hrun, rfl⟩, (transits_seq_iff rfl _).mpr ⟨hrun, rfl⟩, ?_⟩
  change selectDigit _ = _
  rw [selectDigit, hselect]
  rfl

/-- Settles O42: `START_CYCLE` and then `SHOW`, which ends at the phase the iteration began at. -/
theorem oneIterationRuns : Obligations.OneIterationRuns := by
  intro s hrun hphase
  have hcycle := leads_startCycleOps hrun hphase
  have hshow := leads_showOps (s := { s with
    aden := true, dly := 0, adcStarts := s.adcStarts + 1, adstarted := true, adbusy := true, phase := 3 }) hrun rfl
  rw [← hphase] at hshow
  exact (leads_append _ _ _ _).mpr ⟨_, hcycle, hshow⟩

end Sys2Proof.Machine
end

section
/-! SUPPORT. A display span with the other agents in it: the position read, the byte written, the line selected (R127 to
R130), and how long a mismatch between the two positions lasts (R127). -/

namespace Sys2Proof.Machine

/-! ### What a span leaves of the registers it reads -/

/-- A trace runs its last operation after the others. -/
theorem leads_snoc (p : Trace) (i : Instr) (s t : State) :
    Leads (p ++ [i]) s t ↔ ∃ u, Leads p s u ∧ transits i u = true ∧ effect i u = t := by
  simp [leads_append, leads_cons]

theorem OthersOnly.rst_notMem {p : Trace} (h : OthersOnly p) : .rst ∉ p := fun hm => (h _ hm).2 rfl

theorem OthersOnly.seq_notMem {p : Trace} (h : OthersOnly p) {i : Instr} (hi : i.isSeq = true) : i ∉ p :=
  fun hm => by simp [(h i hm).1] at hi

/-- Only `RDCUR` and `RST` write `IDX` (R26). -/
theorem effect_idx {i : Instr} (s : State) (hr : i ≠ .rst) (hd : i ≠ .rdcur) : (effect i s).idx = s.idx := by
  cases hi : i.isSeq with
  | false =>
    obtain ⟨-, -, hidx, -⟩ := effect_of_other s hi hr
    exact hidx
  | true =>
    cases i with
    | rdcur => exact absurd rfl hd
    | arm | wait | trig | selpat | wrpat | seldig => rfl
    | _ => cases hi

theorem idx_of_leads {p : Trace} {s t : State} (h : Leads p s t) (hr : .rst ∉ p) (hd : .rdcur ∉ p) : t.idx = s.idx :=
  leads_induction (P := fun u => u.idx = s.idx) h rfl fun _ hi u hu _ =>
    (effect_idx u (ne_of_mem_of_not_mem hi hr) (ne_of_mem_of_not_mem hi hd)).trans hu

/-- The Cursor comes back to where it was exactly when it has moved a multiple of 4 times (R92). -/
theorem cur_eq_iff_of_leads {p : Trace} {s t : State} (hr : .rst ∉ p) (h : Leads p s t) :
    t.cur = s.cur ↔ occurrences .tick p % 4 = 0 := by
  have hcount := cursorCountsTheTicks p s t hr h
  have hlt := s.cur.isLt
  rw [← BitVec.toNat_inj]
  omega

/-- `WRPAT` writes what `SELPAT` read, whatever the other agents do between (R130). -/
theorem seg_of_selpat_wrpat {b : Trace} {s t : State} (hb : OthersOnly b)
    (h : Leads (.selpat :: b ++ [.wrpat]) s t) : t.seg = patRead s.pat s.idx := by
  obtain ⟨u, hselect, -, rfl⟩ := (leads_snoc _ _ _ _).mp h
  obtain ⟨-, hbetween⟩ := (leads_cons _ _ _ _).mp hselect
  exact pbuf_of_leads hbetween hb.rst_notMem (hb.seq_notMem rfl)

/-- Settles O47: `seg_of_selpat_wrpat`, which rests on `PBUF` alone. -/
theorem stalePatternIsWritten : Obligations.StalePatternIsWritten := fun _ _ _ => seg_of_selpat_wrpat

/-! ### The display point -/

/-- A trace that ends in a `SELDIG` has one line low, that of the position selected; reading `SEL_SRC`'s index after the
`SELDIG` or before it is the same (R124). -/
theorem dselN_of_leads_seldig {p : Trace} {s t : State} (h : Leads (p ++ [.seldig]) s t) :
    t.dselN = onecold (selectIndex t) := by
  obtain ⟨u, -, -, rfl⟩ := (leads_snoc _ _ _ _).mp h
  rfl

/-- It is mismatched when that position is not the one in `IDX` (R127). -/
theorem mismatched_of_leads_seldig {p : Trace} {s t : State} (m : Bool) (h : Leads (p ++ [.seldig]) s t) :
    mismatched m (p ++ [.seldig]) s = true ↔ selectIndex t ≠ t.idx := by
  obtain ⟨u, hp, ht, rfl⟩ := (leads_snoc _ _ _ _).mp h
  rw [mismatched_append m _ hp, mismatched_cons _ _ ht]
  exact bne_iff_ne

/-- Another line than that of a position is low exactly when another position is selected (R82). -/
theorem onecold_ne_iff {c d : Digit} : onecold c ≠ onecold d ↔ c ≠ d :=
  not_congr ⟨onecold_injective, congrArg onecold⟩

section Span

variable {a b c : Trace} {s u t : State} (ha : OthersOnly a) (hb : OthersOnly b) (hc : OthersOnly c)

theorem displaySpan_eq : displaySpan a b c = (.rdcur :: a) ++ (.selpat :: b ++ .wrpat :: c ++ [.seldig]) := by
  simp [displaySpan]

include ha hb hc in
theorem rst_notMem_displaySpan : .rst ∉ displaySpan a b c := by
  simp [displaySpan, ha.rst_notMem, hb.rst_notMem, hc.rst_notMem]

include ha hb hc in
/-- The position read at `RDCUR` stays in `IDX` to the end of the span, and `SEG` gets the element the set had there at
`SELPAT` (R127). -/
theorem idx_and_seg_of_span (hread : Leads (.rdcur :: a) s u)
    (hshow : Leads (.selpat :: b ++ .wrpat :: c ++ [.seldig]) u t) :
    t.idx = s.cur ∧ t.seg = patRead u.pat s.cur := by
  obtain ⟨-, ha'⟩ := (leads_cons _ _ _ _).mp hread
  have hidx : u.idx = s.cur := idx_of_leads ha' ha.rst_notMem (ha.seq_notMem rfl)
  constructor
  · rw [← hidx]
    refine idx_of_leads hshow ?_ ?_
    · simp [hb.rst_notMem, hc.rst_notMem]
    · simp [hb.seq_notMem (i := .rdcur) rfl, hc.seq_notMem (i := .rdcur) rfl]
  · have hsplit : .selpat :: b ++ .wrpat :: c ++ [.seldig] = (.selpat :: b ++ [.wrpat]) ++ (c ++ [.seldig]) := by simp
    rw [hsplit] at hshow
    obtain ⟨v, hwrite, hend⟩ := (leads_append _ _ _ _).mp hshow
    rw [← hidx, ← seg_of_selpat_wrpat hb hwrite]
    refine seg_of_leads hend ?_ ?_
    · simp [hc.rst_notMem]
    · simp [hc.seq_notMem (i := .wrpat) rfl]

end Span

/-- Settles O46: the index selected is that of the Cursor at the end or of the one read first, and the Cursor comes back
to the one read first exactly when the span's `TICK` are a multiple of 4. -/
theorem cursorRaceDecidesTheSelectedLine : Obligations.CursorRaceDecidesTheSelectedLine := by
  intro a b c s u t m ha hb hc hread hshow
  have hspan : Leads (displaySpan a b c) s t := by
    rw [displaySpan_eq]
    exact (leads_append _ _ _ _).mpr ⟨u, hread, hshow⟩
  obtain ⟨hidx, hseg⟩ := idx_and_seg_of_span ha hb hc hread hshow
  have hsel : t.dselN = onecold (selectIndex t) := dselN_of_leads_seldig hspan
  have hmis : mismatched m (displaySpan a b c) s = true ↔ selectIndex t ≠ t.idx := mismatched_of_leads_seldig m hspan
  refine ⟨hseg, hidx, fun hcur => ?_, fun hidxSrc => ?_⟩
  · rw [selectIndex_cur (by rw [leads_cfg hspan, hcur])] at hsel hmis
    have hrace : t.cur ≠ t.idx ↔ occurrences .tick (displaySpan a b c) % 4 ≠ 0 := by
      rw [hidx]
      exact not_congr (cur_eq_iff_of_leads (rst_notMem_displaySpan ha hb hc) hspan)
    exact ⟨hsel, hmis.trans hrace, by rw [hsel, onecold_ne_iff, hrace]⟩
  · rw [selectIndex_idx (by rw [leads_cfg hspan, hidxSrc])] at hsel hmis
    exact ⟨hidx ▸ hsel, hsel, by simpa using hmis⟩

/-- One line low and the byte written are the shown pair (R128). -/
theorem shownPair_of_onecold {s : State} {c : Digit} (h : s.dselN = onecold c) : shownPair s = some (c, s.seg) := by
  simp [shownPair, litPositions_onecold h]

/-- Settles O48: without a `TICK` the Cursor is still the position read first, so `SEL_SRC` makes no difference. -/
theorem shownPairIsTheRowsByte : Obligations.ShownPairIsTheRowsByte := by
  intro a b c s t band ha hb hc htick hspan hrow
  obtain ⟨u, hread, hshow⟩ := (leads_append _ _ _ _).mp (displaySpan_eq ▸ hspan)
  obtain ⟨hidx, hseg⟩ := idx_and_seg_of_span ha hb hc hread hshow
  have hcur : t.cur = s.cur :=
    (cur_eq_iff_of_leads (rst_notMem_displaySpan ha hb hc) hspan).mpr (by
      rw [occurrences, List.count_eq_zero_of_not_mem htick])
  have hsel : t.dselN = onecold s.cur := by
    rw [dselN_of_leads_seldig hspan, selectIndex_of_cur_eq_idx (hcur.trans hidx.symm), hidx]
  rw [shownPair_of_onecold hsel, hseg, hrow _ _ u displaySpan_eq hread]
  rfl

/-! ### How long a mismatch lasts -/

/-- Only `WRPAT` leads to phase 6, the phase of `SELDIG` (R123). -/
theorem effect_phase_ne_six {i : Instr} {s : State} (hr : i ≠ .rst) (hw : i ≠ .wrpat) (h : s.phase ≠ 6) :
    (effect i s).phase ≠ 6 := by
  cases hi : i.isSeq with
  | false =>
    obtain ⟨hphase, -⟩ := effect_of_other s hi hr
    rwa [hphase]
  | true =>
    cases i with
    | wrpat => exact absurd rfl hw
    | arm | trig | rdcur | selpat | seldig => exact nofun
    | wait =>
      rw [effect, waitUnit_phase]
      split <;> decide
    | _ => cases hi

/-- From a state that is not about to select, a trace without `WRPAT` keeps the mismatch and the line selected: no
`SELDIG` can occur in it (R127). -/
theorem mismatched_and_dselN_of_leads {p : Trace} {s t : State} (m : Bool) (hw : .wrpat ∉ p) (hr : .rst ∉ p)
    (h6 : s.phase ≠ 6) (h : Leads p s t) : mismatched m p s = m ∧ t.dselN = s.dselN := by
  induction p generalizing s with
  | nil =>
    obtain rfl := (leads_nil s t).mp h
    exact ⟨rfl, rfl⟩
  | cons i p ih =>
    obtain ⟨ht, hp⟩ := (leads_cons i p s t).mp h
    obtain ⟨hir, hrp⟩ := ne_and_notMem_of_rst_notMem_cons hr
    have hwi : i ≠ .wrpat := ne_of_mem_of_not_mem List.mem_cons_self hw
    have hwp : .wrpat ∉ p := mt (List.mem_cons_of_mem i) hw
    have hid : i ≠ .seldig := by
      rintro rfl
      exact h6 ((transits_seq_iff rfl s).mp ht).2
    obtain ⟨hmis, hsel⟩ := ih hwp hrp (effect_phase_ne_six hir hwi h6) hp
    rw [mismatched_cons m p ht, mismatchAfter_of_ne m s hid hwi hir, hsel, effect_dselN s hir hid]
    exact ⟨hmis, rfl⟩

/-- Another position than the one read first is selected only when it is the Cursor's that is and it has moved (R127). -/
theorem selectIndex_ne_idx_iff (s : State) : selectIndex s ≠ s.idx ↔ s.cfg.selSrc = .cur ∧ s.cur ≠ s.idx := by
  cases hsrc : s.cfg.selSrc with
  | cur => simp [selectIndex_cur hsrc]
  | idx => simp [selectIndex_idx hsrc]

/-- With `SEL_SRC = IDX` no operation makes a mismatch (R134). -/
theorem mismatchAfter_false_of_idx {i : Instr} {s : State} (hsrc : s.cfg.selSrc = .idx) :
    mismatchAfter false i s = false := by
  cases i with
  | seldig => simp [mismatchAfter, selectIndex_idx hsrc]
  | _ => rfl

theorem mismatched_false_of_idx {p : Trace} {s t : State} (hsrc : s.cfg.selSrc = .idx) (h : Leads p s t) :
    mismatched false p s = false := by
  induction p generalizing s with
  | nil => rfl
  | cons i p ih =>
    obtain ⟨ht, hp⟩ := (leads_cons i p s t).mp h
    rw [mismatched_cons _ p ht, mismatchAfter_false_of_idx hsrc]
    exact ih (by rwa [effect_cfg]) hp

/-- Settles O60: after its `SELDIG` the sequencer is at phase 0, from which it selects again only past a `WRPAT`; that
`WRPAT` ends the mismatch. -/
theorem mismatchLastsUntilThePatternWrite : Obligations.MismatchLastsUntilThePatternWrite := by
  refine ⟨fun p s t u m hselect hw hr h => ?_, fun p s t m h => ?_, fun p s t => mismatched_false_of_idx⟩
  · obtain ⟨ht, rfl⟩ := (exec_next_iff _ s t).mp hselect
    have h6 : (effect .seldig s).phase ≠ 6 := nofun
    obtain ⟨hmis, hsel⟩ := mismatched_and_dselN_of_leads (selectIndex s != s.idx) hw hr h6 h
    have hseg := seg_of_leads h hr hw
    refine ⟨?_, hseg, hsel⟩
    rw [mismatched_cons m p ht, mismatchAfter, hmis, bne_iff_ne, selectIndex_ne_idx_iff]
  · obtain ⟨u, hp, ht, -⟩ := (leads_snoc _ _ _ _).mp h
    rw [mismatched_append m _ hp, mismatched_cons _ _ ht]
    rfl

end Sys2Proof.Machine
end

section
/-! SUPPORT. Without a `TICK` inside a show the two values of `SEL_SRC` give the same run (R134, R202). -/

namespace Sys2Proof.Machine

/-- The same state under `SEL_SRC = IDX`. -/
def State.underIdx (s : State) : State := s.withCfg { s.cfg with selSrc := .idx }

/-- No enabling condition depends on `SEL_SRC` (R134). -/
theorem transits_underIdx (i : Instr) (s : State) : transits i s.underIdx = transits i s := by
  cases i <;> rfl

/-- Only `SELDIG` does, and not while the Cursor is the position read first (R134). -/
theorem effect_underIdx {i : Instr} {s : State} (h : i = .seldig → s.cur = s.idx) :
    effect i s.underIdx = (effect i s).underIdx := by
  cases i with
  | seldig =>
    have hlive : selectIndex s = s.idx := selectIndex_of_cur_eq_idx (h rfl)
    change selectDigit s.underIdx = (selectDigit s).underIdx
    rw [selectDigit, selectDigit, hlive]
    rfl
  | conv =>
    cases hm : s.cfg.publishMode with
    | atomic => rw [effect_conv_atomic hm, effect_conv_atomic (s := s.underIdx) hm]; rfl
    | split => rw [effect_conv_split hm, effect_conv_split (s := s.underIdx) hm]; rfl
  | _ => rfl

/-! ### The show under way -/

theorem NoTickInShow.tail {i : Instr} {p : Trace} (h : NoTickInShow (i :: p)) : NoTickInShow p :=
  fun a b c e => h (i :: a) b c (by rw [e]; rfl)

/-- The show under way, past its `RDCUR`, if the trace brings it to its `SELDIG`, selects the position it has read: the
Cursor is that position now, and no `TICK` comes first (R202). -/
def ShowUndisturbed (s : State) (p : Trace) : Prop :=
  4 ≤ s.phase → ∀ before after, p = before ++ .seldig :: after → .seldig ∉ before → .rst ∉ before →
    s.cur = s.idx ∧ .tick ∉ before

theorem ShowUndisturbed.cur_eq_idx {s : State} {p : Trace} (h : ShowUndisturbed s (.seldig :: p))
    (hphase : 4 ≤ s.phase) : s.cur = s.idx :=
  (h hphase [] p rfl List.not_mem_nil List.not_mem_nil).1

/-- An operation after which a show is under way, other than the `RDCUR` that begins it, neither begins nor ends one
(R120). -/
theorem show_under_way_before {i : Instr} {s : State} (hd : i ≠ .rdcur) (ht : transits i s = true)
    (h : 4 ≤ (effect i s).phase) : 4 ≤ s.phase ∧ i ≠ .rst ∧ i ≠ .seldig := by
  cases hi : i.isSeq with
  | false =>
    have hr : i ≠ .rst := by
      rintro rfl
      exact absurd h nofun
    obtain ⟨hphase, -⟩ := effect_of_other s hi hr
    refine ⟨hphase ▸ h, hr, ?_⟩
    rintro rfl
    cases hi
  | true =>
    obtain ⟨-, hphase⟩ := (transits_seq_iff hi s).mp ht
    cases i with
    | rdcur => exact absurd rfl hd
    | selpat | wrpat => exact ⟨by rw [hphase]; decide, nofun, nofun⟩
    | arm | trig | seldig => exact absurd h nofun
    | wait =>
      rw [effect, waitUnit_phase] at h
      split at h <;> exact absurd h nofun
    | _ => cases hi

/-- Every operation of a trace without a `TICK` inside a show keeps the show under way undisturbed. -/
theorem showUndisturbed_effect {i : Instr} {s : State} {p : Trace} (hn : NoTickInShow (i :: p))
    (h : ShowUndisturbed s (i :: p)) (ht : transits i s = true) : ShowUndisturbed (effect i s) p := by
  rintro hphase before after rfl hd hr
  by_cases hread : i = .rdcur
  · subst hread
    exact ⟨rfl, hn [] before after rfl hd hr⟩
  · obtain ⟨hbefore, hir, hid⟩ := show_under_way_before hread ht hphase
    obtain ⟨hcur, htick⟩ := h hbefore (i :: before) after rfl
      (by simp [hd, Ne.symm hid]) (by simp [hr, Ne.symm hir])
    have hit : i ≠ .tick := ne_of_mem_of_not_mem List.mem_cons_self htick
    refine ⟨?_, mt (List.mem_cons_of_mem i) htick⟩
    rw [effect_cur s hir, if_neg hit, effect_idx s hir hread, hcur]

/-- The simulation: the run under `SEL_SRC = IDX` goes along operation by operation (R134). -/
theorem leads_underIdx {p : Trace} {s t : State} (hn : NoTickInShow p) (hs : ShowUndisturbed s p)
    (h : Leads p s t) : Leads p s.underIdx t.underIdx := by
  induction p generalizing s with
  | nil =>
    obtain rfl := (leads_nil s t).mp h
    rfl
  | cons i p ih =>
    obtain ⟨ht, hp⟩ := (leads_cons i p s t).mp h
    have hselect : i = .seldig → s.cur = s.idx := by
      rintro rfl
      obtain ⟨-, hphase⟩ := (transits_seq_iff rfl s).mp ht
      exact hs.cur_eq_idx (by rw [hphase]; decide)
    refine (leads_cons i p _ _).mpr ⟨(transits_underIdx i s).trans ht, ?_⟩
    rw [effect_underIdx hselect]
    exact ih hn.tail (showUndisturbed_effect hn hs ht) hp

/-- Settles O57: at phase 0 no show is under way, and the simulation applies. -/
theorem selectSourcesAgreeWithoutTicks : Obligations.SelectSourcesAgreeWithoutTicks := by
  intro p s t hphase hn _ h
  have hs : ShowUndisturbed s p := fun hlate => absurd hlate (by rw [hphase]; decide)
  have hidx : Leads p s.underIdx t.underIdx := leads_underIdx hn hs h
  rwa [State.underIdx, State.underIdx, leads_cfg h] at hidx

end Sys2Proof.Machine
end

section
/-! SUPPORT. The source's end-to-end program for one reading (R129, R110): the cycle that samples it, the frame's first
show, and then one position after each serviced tick. -/

namespace Sys2Proof.Machine

/-! ### Display points along a trace -/

theorem displayed_cons {i : Instr} {s : State} (p : Trace) (h : transits i s = true) :
    displayed (i :: p) s =
      if i = .seldig then shownPair (effect i s) :: displayed p (effect i s) else displayed p (effect i s) := by
  simp [displayed, exec_of_transits h]

/-- A trace without a `SELDIG` has no display point. -/
theorem displayed_append_of_notMem {p : Trace} {s u : State} (q : Trace) (hd : .seldig ∉ p) (h : Leads p s u) :
    displayed (p ++ q) s = displayed q u := by
  induction p generalizing s with
  | nil =>
    obtain rfl := (leads_nil s u).mp h
    rfl
  | cons i p ih =>
    obtain ⟨ht, hp⟩ := (leads_cons i p s u).mp h
    have hid : i ≠ .seldig := ne_of_mem_of_not_mem List.mem_cons_self hd
    rw [List.cons_append, displayed_cons _ ht, if_neg hid]
    exact ih (mt (List.mem_cons_of_mem i) hd) hp

/-- The display point of an undisturbed `SHOW` is the state it ends in (R128). -/
theorem displayed_showOps_append {s u : State} (q : Trace) (h : Leads showOps s u) :
    displayed (showOps ++ q) s = shownPair u :: displayed q u := by
  obtain ⟨v, hsteps, ht, rfl⟩ := (leads_snoc [.rdcur, .selpat, .wrpat] .seldig s u).mp h
  have hd : .seldig ∉ ([.rdcur, .selpat, .wrpat] : Trace) := by decide
  have hsplit : showOps ++ q = [.rdcur, .selpat, .wrpat] ++ (.seldig :: q) := rfl
  rw [hsplit, displayed_append_of_notMem _ hd hsteps, displayed_cons _ ht, if_pos rfl]

/-! ### The program -/

/-- A running machine at phase `k` with nothing pending but perhaps a tick, the Cursor at `c` and the set the row of `b`. -/
structure Showing (k : Phase) (b : Band) (c : Digit) (s : State) : Prop where
  run : s.run = true
  gie : s.gie = true
  phase : s.phase = k
  pubmask : s.pubmask = 0
  cpend : s.cpend = false
  pat : s.pat = row b
  cur : s.cur = c

/-- `SHOW` comes back to phase 0, showing the row's byte at the Cursor (R129). -/
theorem Showing.leads_showOps {b : Band} {c : Digit} {s : State} (h : Showing 3 b c s) :
    ∃ u, Leads showOps s u ∧ Showing 0 b c u ∧ shownPair u = some (c, rowRead b c) := by
  refine ⟨_, Machine.leads_showOps h.run h.phase, ⟨h.run, h.gie, rfl, h.pubmask, h.cpend, h.pat, h.cur⟩, ?_⟩
  rw [shownPair_of_onecold rfl, h.cur, h.pat]
  rfl

/-- A tick from its source and its service advance the Cursor (R90, R91). -/
theorem Showing.leads_ticksvc {b : Band} {c : Digit} {s : State} (h : Showing 0 b c s) :
    ∃ u, Leads Pseudo.ticksvc.expand s u ∧ Showing 0 b (c + 1) u := by
  have hsignal : transits .tickin s = true := h.run
  have hservice : transits .tick (effect .tickin s) = true :=
    (tickHandler_iff _).mpr ⟨h.gie, rfl, h.pubmask, fun _ => h.cpend⟩
  refine ⟨effect .tick (effect .tickin s), ?_, h.run, h.gie, h.phase, h.pubmask, h.cpend, h.pat, ?_⟩
  · simp [Pseudo.expand, leads_cons, hsignal, hservice]
  · rw [← h.cur]
    rfl

/-- The sampling cycle takes the machine from phase 0 to the show (R103). -/
theorem Showing.leads_startCycleOps {b : Band} {c : Digit} {s : State} (h : Showing 0 b c s) :
    ∃ u, Leads startCycleOps s u ∧ Showing 3 b c u :=
  ⟨_, Machine.leads_startCycleOps h.run h.phase, h.run, h.gie, rfl, h.pubmask, h.cpend, h.pat, h.cur⟩

theorem seldig_notMem_startCycleOps : .seldig ∉ startCycleOps := by decide

/-- A serviced tick and one iteration display the next position. -/
theorem Showing.displayed_ticksvc_iteration {b : Band} {c : Digit} {s : State} (h : Showing 0 b c s) :
    ∃ u, Showing 0 b (c + 1) u ∧ ∀ q, displayed (Pseudo.ticksvc.expand ++ iterationOps ++ q) s =
      some (c + 1, rowRead b (c + 1)) :: displayed q u := by
  obtain ⟨s₁, htick, h₁⟩ := h.leads_ticksvc
  obtain ⟨s₂, hcycle, h₂⟩ := h₁.leads_startCycleOps
  obtain ⟨u, hshow, hu, hpair⟩ := h₂.leads_showOps
  refine ⟨u, hu, fun q => ?_⟩
  rw [List.append_assoc, displayed_append_of_notMem _ (by decide) htick, iterationOps, List.append_assoc,
    displayed_append_of_notMem _ seldig_notMem_startCycleOps hcycle, displayed_showOps_append q hshow, hpair]

/-- A result for a request in flight and its service latch the reading's row in atomic mode (R104, R105). -/
theorem leads_sample {s : State} (v : Byte) (hm : s.cfg.publishMode = .atomic) (hgie : s.gie = true)
    (hmask : s.pubmask = 0) (htick : s.tpend = false) (hstarted : s.adstarted = true) (hbusy : s.adbusy = true) :
    Leads (Pseudo.sample v).expand s { s with
      cdata := v, adbusy := false, cpend := false, pat := row (bandOf v) } := by
  have hresult : transits (.adcdone v) s = true := (adcdoneEnabled_iff s).mpr ⟨fun _ => hstarted, fun _ => hbusy⟩
  have hservice : transits .conv (effect (.adcdone v) s) = true :=
    (convHandler_iff _).mpr ⟨hgie, rfl, hmask, fun _ => htick⟩
  simp only [Pseudo.expand, leads_cons, leads_nil]
  refine ⟨hresult, hservice, ?_⟩
  rw [effect_conv_atomic (s := effect (.adcdone v) s) hm]
  rfl

/-- Boot, one cycle and one sample, from any state: in atomic mode the set is the reading's row, with the Cursor at its
reset value (R140, R141, R103, R105). -/
theorem leads_boot_cycle_sample {s : State} (v : Byte) (hm : s.cfg.publishMode = .atomic) :
    ∃ u, Leads (Pseudo.boot.expand ++ startCycleOps ++ (Pseudo.sample v).expand) s u ∧
      Showing 3 (bandOf v) s.cfg.curReset u := by
  have hboot : Leads Pseudo.boot.expand s (effect .init (effect .rst s)) := by
    simp only [Pseudo.expand, leads_cons, leads_nil]
    exact ⟨rfl, rfl, trivial⟩
  have hcycle := leads_startCycleOps (s := effect .init (effect .rst s)) rfl rfl
  have hsample := leads_sample (s := { effect .init (effect .rst s) with
    aden := true, dly := 0, adcStarts := s.adcStarts + 1, adstarted := true, adbusy := true, phase := 3 })
    v hm rfl rfl rfl rfl rfl
  exact ⟨_, (leads_append _ _ _ _).mpr ⟨_, (leads_append _ _ _ _).mpr ⟨_, hboot, hcycle⟩, hsample⟩,
    rfl, rfl, rfl, rfl, rfl, rfl, rfl⟩

/-- Settles O49: the first show at the Cursor's reset value, and one more position for each of the three ticks. -/
theorem frameShowsTheReadingsRow : Obligations.FrameShowsTheReadingsRow := by
  intro s v hm hreset
  obtain ⟨s₀, hstart, h₀⟩ := leads_boot_cycle_sample v hm
  rw [hreset] at h₀
  obtain ⟨s₁, hshow, h₁, hpair⟩ := h₀.leads_showOps
  obtain ⟨s₂, h₂, hnext₁⟩ := h₁.displayed_ticksvc_iteration
  obtain ⟨s₃, h₃, hnext₂⟩ := h₂.displayed_ticksvc_iteration
  obtain ⟨s₄, -, hnext₃⟩ := h₃.displayed_ticksvc_iteration
  have hd : .seldig ∉ Pseudo.boot.expand ++ startCycleOps ++ (Pseudo.sample v).expand := by
    simp [Pseudo.expand, seldig_notMem_startCycleOps]
  have hframes : (List.replicate 3 (Pseudo.ticksvc.expand ++ iterationOps)).flatten =
      Pseudo.ticksvc.expand ++ iterationOps ++
        (Pseudo.ticksvc.expand ++ iterationOps ++ (Pseudo.ticksvc.expand ++ iterationOps ++ [])) := rfl
  rw [frameProgram, List.append_assoc, displayed_append_of_notMem _ hd hstart,
    displayed_showOps_append _ hshow, hpair, hframes, hnext₁, hnext₂, hnext₃]
  rfl

end Sys2Proof.Machine
end

section
/-! SUPPORT. The system operations: what `RST` leaves enabled and which registers nothing but `RST` clears (R140), and the
running machine between an `INIT` and the next reset (R141). -/

namespace Sys2Proof.Machine

/-! ### `INIT` -/

/-- While the machine runs, `INIT` is refused (R141). -/
theorem exec_init_of_run {s : State} (h : s.run = true) : exec .init s = .refused (.notEnabled .init) :=
  exec_of_not_enabled (i := .init) (by simp [enabled, initEnabled, h])

/-- A running machine still runs at the end of a trace without a reset (R33). -/
theorem run_of_leads {p : Trace} {s t : State} (hr : .rst ∉ p) (hrun : s.run = true) (h : Leads p s t) :
    t.run = true :=
  leads_induction (P := fun u => u.run = true) h hrun fun _ hi _ hu _ =>
    effect_run_of_run (ne_of_mem_of_not_mem hi hr) hu

/-- Settles O9: `RUN` alone enables `INIT`; it is set by `INIT`, and no operation of the trace clears it. -/
theorem initStartsTheLoop : Obligations.InitStartsTheLoop := by
  refine ⟨rfl, decode_encode .init, fun s hrun => ?_, fun _ => exec_init_of_run, fun p s t u hinit hr h => ?_⟩
  · exact exec_of_transits (i := .init) (by simp [transits, enabled, initEnabled, hrun])
  · obtain ⟨-, rfl⟩ := (exec_next_iff .init s t).mp hinit
    have hrun : u.run = true := run_of_leads hr (startLoop_run s) h
    exact ⟨hrun, exec_init_of_run hrun⟩

/-! ### `RST` -/

/-- Right after a reset only `RST` and `INIT` are enabled: `RUN` and `GIE` are 0, no conversion has been requested, and
no element is still to be published (R140, R183). -/
theorem enabled_resetRegisters {i : Instr} (s : State) (hr : i ≠ .rst) (hi : i ≠ .init) :
    enabled i (resetRegisters s) = false := by
  cases i with
  | rst => exact absurd rfl hr
  | init => exact absurd rfl hi
  | adcdone v => exact adcdoneEnabled_eq_false rfl rfl
  | pubw k => simp [enabled, pubwEnabled]
  | _ => rfl

/-- The enables and the converter's history: each is set by an operation of its own and cleared by `RST` alone (R140). -/
def startedRegs : List Reg := [.gie, .run, .aden, .adstarted]

/-- An operation other than `RST` that writes one of these registers sets it: `INIT`, `ARM` and `TRIG` do. -/
theorem regValue_effect_of_mem_writes_started {m : PublishMode} {i : Instr} {r : Reg} (s : State) (hi : i ≠ .rst)
    (hr : r ∈ startedRegs) (hw : r ∈ writes m i) : regValue (effect i s) r = 1 := by
  simp only [startedRegs, List.mem_cons, List.not_mem_nil, or_false] at hr
  cases i with
  | rst => exact absurd rfl hi
  | init | arm | trig => obtain rfl | rfl | rfl | rfl := hr <;> simp_all [writes, regValue, effect]
  | conv => cases m <;> obtain rfl | rfl | rfl | rfl := hr <;> simp [writes, patRegs] at hw
  | _ => obtain rfl | rfl | rfl | rfl := hr <;> simp [writes] at hw

/-- So none of them, once set, is cleared but by `RST`: an operation writes it and sets it, or leaves it alone. -/
theorem regValue_effect_of_started {i : Instr} {s : State} {r : Reg} (hi : i ≠ .rst) (hr : r ∈ startedRegs)
    (hset : regValue s r = 1) : regValue (effect i s) r = 1 := by
  by_cases hw : r ∈ writes s.cfg.publishMode i
  · exact regValue_effect_of_mem_writes_started s hi hr hw
  · rw [regValue_effect_of_not_mem_writes hw, hset]

/-- Settles O8: the values stand in `resetRegisters`; the other two claims are `enabled_resetRegisters` and
`regValue_effect_of_started`. -/
theorem rstResetsEveryRegister : Obligations.RstResetsEveryRegister := by
  refine ⟨rfl, decode_encode .rst, fun s => ⟨_, _, _, _, _, rfl⟩, fun s t i h hr hi => ?_, fun i s t h hr => ?_⟩
  · obtain ⟨-, rfl⟩ := (exec_next_iff .rst s t).mp h
    exact exec_of_not_enabled (enabled_resetRegisters s hr hi)
  · obtain ⟨-, rfl⟩ := (exec_next_iff i s t).mp h
    have keep : ∀ r ∈ startedRegs, regValue s r = 1 → regValue (effect i s) r = 1 :=
      fun _ => regValue_effect_of_started hr
    simpa [startedRegs, regValue] using keep

end Sys2Proof.Machine
end

section
/-! SUPPORT. A fixed `IRQ_PRIORITY` against `open`: it decides which of two pending handlers starts, so it only takes
transitions away (R159, D12). -/

namespace Sys2Proof.Machine

/-! ### `tick_first`, `conv_first` and `open` -/

/-- The same state under `IRQ_PRIORITY = open`. -/
def State.underOpen (s : State) : State := s.withCfg { s.cfg with irqPriority := .eitherFirst }

/-- What is a transition under any priority is one under `open`: only `TICK` and `CONV` ask for the priority, and `open`
holds neither source back (R159). -/
theorem transits_underOpen {i : Instr} {s : State} (ht : transits i s = true) : transits i s.underOpen = true := by
  cases i with
  | tick =>
    obtain ⟨hgie, hpend, hmask, -⟩ := (tickHandler_iff s).mp ht
    exact (tickHandler_iff s.underOpen).mpr ⟨hgie, hpend, hmask, nofun⟩
  | conv =>
    obtain ⟨hgie, hpend, hmask, -⟩ := (convHandler_iff s).mp ht
    exact (convHandler_iff s.underOpen).mpr ⟨hgie, hpend, hmask, nofun⟩
  | _ => exact ht

/-- No effect depends on the priority (R159). -/
theorem effect_underOpen (i : Instr) (s : State) : effect i s.underOpen = (effect i s).underOpen := by
  cases i with
  | conv =>
    cases hm : s.cfg.publishMode with
    | atomic => rw [effect_conv_atomic hm, effect_conv_atomic (s := s.underOpen) hm]; rfl
    | split => rw [effect_conv_split hm, effect_conv_split (s := s.underOpen) hm]; rfl
  | _ => rfl

/-- The simulation: the run under `open` goes along operation by operation (R159). -/
theorem leads_underOpen {p : Trace} {s t : State} (h : Leads p s t) : Leads p s.underOpen t.underOpen := by
  induction p generalizing s with
  | nil =>
    obtain rfl := (leads_nil s t).mp h
    rfl
  | cons i p ih =>
    obtain ⟨ht, hp⟩ := (leads_cons i p s t).mp h
    refine (leads_cons i p _ _).mpr ⟨transits_underOpen ht, ?_⟩
    rw [effect_underOpen]
    exact ih hp

/-- Settles O55: the simulation, whose two ends have the same parameters. -/
theorem fixedPriorityTracesAreOpenTraces : Obligations.FixedPriorityTracesAreOpenTraces := by
  intro p s t h
  have hopen : Leads p s.underOpen t.underOpen := leads_underOpen h
  rwa [State.underOpen, State.underOpen, leads_cfg h] at hopen

/-! ### Both sources pending -/

/-- With both latches set, interrupts enabled and no publish in progress, each handler may start unless the priority is
the other's (R159, R160). -/
theorem enabled_handlers_of_both_pending {s : State} (hgie : s.gie = true) (hmask : s.pubmask = 0)
    (htick : s.tpend = true) (hconv : s.cpend = true) :
    (enabled .tick s = true ↔ s.cfg.irqPriority ≠ .convFirst) ∧
    (enabled .conv s = true ↔ s.cfg.irqPriority ≠ .tickFirst) := by
  simp [enabled, tickHandler_iff, convHandler_iff, hgie, hmask, htick, hconv]

/-- In atomic mode the two handlers' effects commute: they write different registers, and `TICK` touches nothing that
`CONV` reads (R39, R159). -/
theorem effect_conv_tick_comm {s : State} (hm : s.cfg.publishMode = .atomic) :
    effect .conv (effect .tick s) = effect .tick (effect .conv s) := by
  rw [effect_conv_atomic hm, effect_conv_atomic (s := effect .tick s) hm]
  rfl

/-- A serviced tick leaves `CONV` startable: it clears the one latch that could hold it back (R159). -/
theorem enabled_conv_effect_tick {s : State} (h : enabled .conv s = true) : enabled .conv (effect .tick s) = true := by
  obtain ⟨hgie, hpend, hmask, -⟩ := (convHandler_iff s).mp h
  exact (convHandler_iff (effect .tick s)).mpr ⟨hgie, hpend, hmask, fun _ => rfl⟩

/-- In atomic mode a published result leaves `TICK` startable: it opens no publish, and clears the one latch that could
hold the tick back (R159). -/
theorem enabled_tick_effect_conv {s : State} (hm : s.cfg.publishMode = .atomic) (h : enabled .tick s = true) :
    enabled .tick (effect .conv s) = true := by
  obtain ⟨hgie, hpend, hmask, -⟩ := (tickHandler_iff s).mp h
  rw [effect_conv_atomic hm]
  exact (tickHandler_iff _).mpr ⟨hgie, hpend, hmask, fun _ => rfl⟩

/-- Two operations in a row. -/
theorem leads_pair {i j : Instr} {s : State} (hi : transits i s = true) (hj : transits j (effect i s) = true) :
    Leads [i, j] s (effect j (effect i s)) := by
  simp [leads_cons, hi, hj]

/-- Settles O34: with both latches set only the priority's clause of the enabling conditions is open; in atomic mode
either handler leaves the other startable, and their effects commute. -/
theorem arbitrationAndCommutation : Obligations.ArbitrationAndCommutation := by
  refine ⟨fun s hgie hmask htick hconv => ?_, fun s hm htick hconv => ?_⟩
  · have hen := enabled_handlers_of_both_pending hgie hmask htick hconv
    refine ⟨fun hp => ?_, fun hp => ?_, fun hp => ?_⟩ <;> simpa [hp] using hen
  · refine ⟨effect .conv (effect .tick s), leads_pair htick (enabled_conv_effect_tick hconv), ?_⟩
    rw [effect_conv_tick_comm hm]
    exact leads_pair hconv (enabled_tick_effect_conv hm htick)

end Sys2Proof.Machine
end

section
/-! SUPPORT. The handlers and the rest of the machine: while a publish is in progress none starts (R164), what a handler
leaves unchanged (R161), and in a fair run the service of a pending tick (R175, R201). -/

namespace Sys2Proof.Machine

/-! ### No nesting -/

/-- While a publish is in progress no handler starts (R160, R164). -/
theorem handlerMayStart_of_publishing (src : IrqSource) {s : State} (h : s.pubmask ≠ 0) :
    handlerMayStart src s = false := by
  rw [Bool.eq_false_iff, ne_eq, handlerMayStart_iff]
  rintro ⟨-, -, hmask, -⟩
  exact h hmask

/-- Settles O35: the handlers by `handlerMayStart_of_publishing`; the two events ask only for their own conditions. -/
theorem handlersNeverNest : Obligations.HandlersNeverNest := by
  refine fun s hmask => ⟨?_, ?_, fun hrun => ?_, fun hstarted hbusy v => ?_⟩
  · exact exec_of_not_enabled (i := .tick) (handlerMayStart_of_publishing .tick hmask)
  · exact exec_of_not_enabled (i := .conv) (handlerMayStart_of_publishing .conv hmask)
  · exact ⟨_, exec_tickin_of_run hrun, rfl, rfl⟩
  · have ht : transits (.adcdone v) s = true := (adcdoneEnabled_iff s).mpr ⟨fun _ => hstarted, fun _ => hbusy⟩
    exact ⟨_, exec_of_transits ht, rfl, rfl, rfl, rfl⟩

/-! ### Nothing saved, nothing disturbed -/

/-- Settles O36: each handler's effect, for `CONV` in either mode, names every register it writes. -/
theorem handlersLeaveTheSequencerAlone : Obligations.HandlersLeaveTheSequencerAlone := by
  refine ⟨fun s t h => ?_, fun i s t hi h => ?_⟩
  · obtain ⟨-, rfl⟩ := (exec_next_iff .tick s t).mp h
    rfl
  · obtain ⟨-, rfl⟩ := (exec_next_iff i s t).mp h
    obtain rfl | ⟨k, rfl⟩ := hi
    · cases hm : s.cfg.publishMode with
      | atomic => rw [effect_conv_atomic hm]
      | split => rw [effect_conv_split hm]
    · rfl

/-! ### Service in an unending run -/

/-- Every point of a run from a safe state on is safe (R42). -/
theorem Run.safeState (r : Run) {n m : Nat} (hnm : n ≤ m) (hs : SafeState (r.states n)) : SafeState (r.states m) :=
  r.induction hnm hs fun k hk => safeState_effect hk (r.transits_and_next k).1

/-- A run leaves the parameters alone. -/
theorem Run.cfg_eq (r : Run) {n m : Nat} (hnm : n ≤ m) : (r.states m).cfg = (r.states n).cfg :=
  r.induction (P := fun s => s.cfg = (r.states n).cfg) hnm rfl fun _ hk => (effect_cfg _ _).trans hk

/-- A pending tick stays pending for as long as no `TICK` services it (R66). -/
theorem Run.tpend_of_no_tick {r : Run} {n m : Nat} (hr : ∀ k, r.ops k ≠ .rst) (hno : ∀ k, n ≤ k → r.ops k ≠ .tick)
    (hnm : n ≤ m) (hpend : (r.states n).tpend = true) : (r.states m).tpend = true := by
  induction hnm with
  | refl => exact hpend
  | step hk ih =>
    rw [← (r.transits_and_next _).2]
    exact effect_tpend_of_pending (hr _) (hno _ hk) ih

/-- In atomic mode and not under `conv_first`, a pending tick of a safe state may be serviced at once: it is pending only
in a running machine, whose interrupts are on, and no publish is ever in progress (R160, R175). -/
theorem enabled_tick_of_safeState {s : State} (hs : SafeState s) (hm : s.cfg.publishMode = .atomic)
    (hp : s.cfg.irqPriority ≠ .convFirst) (hpend : s.tpend = true) : enabled .tick s = true := by
  obtain ⟨⟨-, -, -, hrungie, -⟩, ⟨-, hrun, -, -, -, -, hatomic⟩, -⟩ := hs
  have hgie : s.gie = true := hrungie ▸ hrun hpend
  exact (tickHandler_iff s).mpr ⟨hgie, hpend, (hatomic hm).1, fun h => absurd h hp⟩

/-- Settles O58: without a `TICK` the tick would stay pending and so `TICK` enabled forever, which `IRQ_FAIR` excludes. -/
theorem pendingTickIsServiced : Obligations.PendingTickIsServiced := by
  intro r n hfair hr hm hp hs hpend
  refine Classical.byContradiction fun hnever => ?_
  have hno : ∀ k, n ≤ k → r.ops k ≠ .tick := fun k hk htick => hnever ⟨k, hk, htick⟩
  have hen : ∀ k, n ≤ k → enabled .tick (r.states k) = true := fun k hk =>
    enabled_tick_of_safeState (r.safeState hk hs) (r.cfg_eq hk ▸ hm) (r.cfg_eq hk ▸ hp)
      (Run.tpend_of_no_tick hr hno hk hpend)
  exact hnever (hfair n .tick rfl hen)

end Sys2Proof.Machine
end

section
/-! SUPPORT. How far the sequencer is from one of its operations to the next: in a trace up to an operation of the
iteration (R203), and from reset up to the first result (R186). -/

namespace Sys2Proof.Machine

/-! ### Up to the next occurrence of an operation -/

/-- Two lists that go on in the same way agree up to the first occurrence of an element. -/
theorem eq_of_append_singleton_prefix {α : Type} [DecidableEq α] {x : α} {p l r : List α} (hp : x ∉ p) (hl : x ∉ l)
    (h : p ++ [x] <+: l ++ x :: r) : p = l := by
  have upTo : ∀ {q q' : List α}, x ∉ q → (q ++ x :: q').takeWhile (· ≠ x) = q := fun hq => by
    rw [List.takeWhile_append_of_pos fun y hy => decide_eq_true (ne_of_mem_of_not_mem hy hq)]
    simp
  obtain ⟨q, hq⟩ := h
  rw [← upTo (q' := q) hp, ← upTo (q' := r) hl, ← hq, List.append_assoc, List.singleton_append]

theorem seqOps_append (p q : Trace) : seqOps (p ++ q) = seqOps p ++ seqOps q := List.filter_append ..

theorem occurrences_seqOps {i : Instr} (hi : i.isSeq = true) (p : Trace) :
    occurrences i (seqOps p) = occurrences i p := List.count_filter hi

/-- Up to the first occurrence of one of its operations the sequencer goes through what the running iteration and the
next have before it (R120). -/
theorem seqOps_before_next {x : Instr} {p l r : Trace} {s t : State} (hx : x.isSeq = true) (hr : .rst ∉ p) (hp : x ∉ p)
    (hs : DelayLoaded s) (h : Leads (p ++ [x]) s t) (hrest : restOfIteration s ++ iterationOps = l ++ x :: r)
    (hl : x ∉ l) : seqOps p = l := by
  have hrx : .rst ∉ p ++ [x] := by
    rw [List.mem_append, List.mem_singleton, not_or]
    exact ⟨hr, by rintro rfl; cases hx⟩
  obtain ⟨n, hn⟩ := seqOps_prefix_of_leads hrx hs h
  have hmore : (List.replicate n iterationOps).flatten <+: iterationOps ++ (List.replicate n iterationOps).flatten := by
    rw [← replicate_succ_iterationOps, List.replicate_succ', List.flatten_append]
    exact List.prefix_append _ _
  have hprefix := hn.trans ((List.prefix_append_right_inj _).mpr hmore)
  have hone : seqOps [x] = [x] := by simp [seqOps, hx]
  rw [seqOps_append, hone, ← List.append_assoc, hrest, List.append_assoc, List.cons_append] at hprefix
  exact eq_of_append_singleton_prefix (fun hm => hp (List.mem_filter.mp hm).1) hl hprefix

/-- After a `TRIG` come a show, an `ARM` and the whole settling delay before the next (R203). -/
theorem seqOps_between_trigs {p : Trace} {s t : State} (hr : .rst ∉ p) (hp : .trig ∉ p)
    (h : Leads (.trig :: p ++ [.trig]) s t) : seqOps p = showOps ++ .arm :: List.replicate settle.toNat .wait := by
  obtain ⟨-, hp'⟩ := (leads_cons _ _ _ _).mp h
  have hs : DelayLoaded (effect .trig s) := nofun
  exact seqOps_before_next (r := showOps) rfl hr hp hs hp' rfl (by decide)

/-- After an `ARM` comes the settling delay (R103, R203). -/
theorem seqOps_between_arm_and_trig {p : Trace} {s t : State} (hr : .rst ∉ p) (hp : .trig ∉ p)
    (h : Leads (.arm :: p ++ [.trig]) s t) : seqOps p = List.replicate settle.toNat .wait := by
  obtain ⟨-, hp'⟩ := (leads_cons _ _ _ _).mp h
  have hs : DelayLoaded (effect .arm s) := fun _ => (by decide : 1 ≤ settle)
  exact seqOps_before_next (r := showOps ++ iterationOps) rfl hr hp hs hp' rfl (by decide)

/-- After a `SELDIG` comes a whole iteration, of which the next is the last (R120, R203). -/
theorem seqOps_between_seldigs {p : Trace} {s t : State} (hr : .rst ∉ p) (hp : .seldig ∉ p)
    (h : Leads (.seldig :: p ++ [.seldig]) s t) : seqOps p = startCycleOps ++ [.rdcur, .selpat, .wrpat] := by
  obtain ⟨-, hp'⟩ := (leads_cons _ _ _ _).mp h
  have hs : DelayLoaded (effect .seldig s) := nofun
  exact seqOps_before_next (r := iterationOps) rfl hr hp hs hp' rfl (by decide)

/-- Settles O44: the three stretches are known operation by operation, so their counts are. -/
theorem countsBetweenPulsesAndDisplayPoints : Obligations.CountsBetweenPulsesAndDisplayPoints := by
  refine ⟨fun p s t hr hp h => ?_, fun p s t hr hp h => ?_, fun p s t hr hp h => ?_⟩
  · rw [← occurrences_seqOps rfl, seqOps_between_trigs hr hp h]
    decide
  · rw [← occurrences_seqOps rfl, seqOps_between_arm_and_trig hr hp h]
    decide
  · rw [seqOps_between_seldigs hr hp h]
    decide

/-! ### From reset to the first result -/

/-- Only `TRIG` and `RST` write `ADSTARTED` (R38). -/
theorem effect_adstarted {i : Instr} (s : State) (hr : i ≠ .rst) (ht : i ≠ .trig) :
    (effect i s).adstarted = s.adstarted := by
  cases i with
  | rst => exact absurd rfl hr
  | trig => exact absurd rfl ht
  | conv =>
    cases hm : s.cfg.publishMode with
    | atomic => rw [effect_conv_atomic hm]
    | split => rw [effect_conv_split hm]
  | _ => rfl

theorem adstarted_of_leads {p : Trace} {s t : State} (h : Leads p s t) (hr : .rst ∉ p) (ht : .trig ∉ p) :
    t.adstarted = s.adstarted :=
  leads_induction (P := fun u => u.adstarted = s.adstarted) h rfl fun _ hi u hu _ =>
    (effect_adstarted u (ne_of_mem_of_not_mem hi hr) (ne_of_mem_of_not_mem hi ht)).trans hu

/-- A safe state takes a result only after a request, under either converter model (R42 item (e), R104). -/
theorem adstarted_of_adcdone {s : State} {v : Byte} (hs : SafeState s) (h : transits (.adcdone v) s = true) :
    s.adstarted = true := by
  obtain ⟨⟨-, -, -, -, hbusy, -⟩, -⟩ := hs
  obtain ⟨hfree, honeShot⟩ := (adcdoneEnabled_iff s).mp h
  cases hm : s.cfg.adcModel with
  | free => exact hfree hm
  | oneShot => exact hbusy (honeShot hm)

/-- From phase 0 the first `TRIG` comes after an `ARM` and the whole settling delay (R103). -/
theorem seqOps_before_first_trig {p : Trace} {s t : State} (hr : .rst ∉ p) (hp : .trig ∉ p) (hphase : s.phase = 0)
    (h : Leads (p ++ [.trig]) s t) : seqOps p = .arm :: List.replicate settle.toNat .wait := by
  have hs : DelayLoaded s := by simp [DelayLoaded, hphase]
  refine seqOps_before_next (r := showOps ++ iterationOps) rfl hr hp hs h ?_ (by decide)
  rw [restOfIteration_phase_zero hphase]
  rfl

/-- Settles O45: a result needs a request, and the first `TRIG` ends a whole `START_CYCLE`. -/
theorem firstResultFollowsTheFirstTrigger : Obligations.FirstResultFollowsTheFirstTrigger := by
  intro cfg d p v t hr h
  obtain ⟨u, hp, hresult, -⟩ := (leads_snoc _ _ _ _).mp h
  have hstarted := adstarted_of_adcdone (safeState_of_leads (safeState_afterReset cfg d) hp) hresult
  have htrig : .trig ∈ p := Classical.byContradiction fun hno => by
    rw [adstarted_of_leads hp hr hno] at hstarted
    cases hstarted
  refine ⟨htrig, ?_⟩
  obtain ⟨a, b, rfl, ha⟩ := List.eq_append_cons_of_mem htrig
  rw [List.append_cons] at hp
  obtain ⟨w, hfirst, -⟩ := (leads_append _ _ _ _).mp hp
  have hcycle : seqOps a = .arm :: List.replicate settle.toNat .wait :=
    seqOps_before_first_trig (mt (List.mem_append_left _) hr) ha rfl hfirst
  have hsplit : seqOps (a ++ .trig :: b) = startCycleOps ++ seqOps b := by
    rw [List.append_cons, seqOps_append, seqOps_append, hcycle]
    rfl
  have hlength : startCycleOps.length = 22 := rfl
  rw [hsplit, List.length_append, hlength]
  exact Nat.le_add_right _ _

end Sys2Proof.Machine
end

section
/-! SUPPORT. A `RDCUR` and a later `SELDIG` with no `TICK` in between or before show the position the Cursor has kept, under
either `SEL_SRC` (R127, R202). -/

namespace Sys2Proof.Machine

/-- While the Cursor does not move, `IDX` agrees with it from the first `RDCUR` on (R121). -/
theorem idx_eq_cur_of_rdcur {p : Trace} {s t : State} (hr : .rst ∉ p) (htick : .tick ∉ p) (hread : .rdcur ∈ p)
    (h : Leads p s t) : t.cur = t.idx :=
  leads_established (P := fun u => u.cur = u.idx) h hread (fun _ _ _ => rfl) fun i hi u hu _ => by
    by_cases hrd : i = .rdcur
    · subst hrd; rfl
    · have hit : i ≠ .tick := ne_of_mem_of_not_mem hi htick
      have hir : i ≠ .rst := ne_of_mem_of_not_mem hi hr
      rw [effect_cur u hir, if_neg hit, effect_idx u hir hrd, hu]

/-- The Cursor stays while there is no `TICK` (R92). -/
theorem cur_of_leads {p : Trace} {s t : State} (hr : .rst ∉ p) (htick : .tick ∉ p) (h : Leads p s t) : t.cur = s.cur :=
  (cur_eq_iff_of_leads hr h).mpr (by rw [occurrences, List.count_eq_zero_of_not_mem htick])

/-- A `SELDIG` after a `RDCUR`, with no `TICK` before it, shows the position at which the Cursor stood all along (R128). -/
theorem shownPair_of_rdcur_seldig {q : Trace} {s t : State} (hr : .rst ∉ q) (htick : .tick ∉ q) (hread : .rdcur ∈ q)
    (h : Leads (q ++ [.seldig]) s t) : shownPair t = some (s.cur, t.seg) := by
  have hr' : .rst ∉ q ++ [.seldig] := by simp [hr]
  have htick' : .tick ∉ q ++ [.seldig] := by simp [htick]
  have hagree : t.cur = t.idx := idx_eq_cur_of_rdcur hr' htick' (List.mem_append_left _ hread) h
  have hsel : t.dselN = onecold s.cur := by
    rw [dselN_of_leads_seldig h, selectIndex_of_cur_eq_idx hagree, ← hagree, cur_of_leads hr' htick' h]
  exact shownPair_of_onecold hsel

/-- A trace with a whole display span in it has a `SELDIG` after a `RDCUR` (R120). -/
theorem exists_seldig_after_rdcur {p : Trace} (h : showOps <:+: seqOps p) :
    ∃ q q', p = q ++ .seldig :: q' ∧ .rdcur ∈ q := by
  have hshow : List.Sublist [.rdcur, .seldig] showOps := by decide
  have hends : List.Sublist [.rdcur, .seldig] p := hshow.trans (h.sublist.trans List.filter_sublist)
  obtain ⟨a, b, rfl, hread, hselect⟩ := List.cons_sublist_iff.mp hends
  obtain ⟨c, q', rfl⟩ := List.append_of_mem (List.singleton_sublist.mp hselect)
  exact ⟨a ++ c, q', (List.append_assoc ..).symm, List.mem_append_left _ hread⟩

/-- Settles O50: the span that the cadence puts between the two `TICK` reads and selects the position the first of them
moved the Cursor to. -/
theorem everyPositionIsShownUnderCadence : Obligations.EveryPositionIsShownUnderCadence := by
  intro p s t hcad htick hr h
  obtain ⟨q, q', rfl, hread⟩ := exists_seldig_after_rdcur (hcad [] p [] rfl)
  have hsplit : .tick :: (q ++ .seldig :: q') ++ [.tick] = (.tick :: q ++ [.seldig]) ++ (q' ++ [.tick]) := by simp
  rw [hsplit] at h
  obtain ⟨u, hshow, -⟩ := (leads_append _ _ _ _).mp h
  obtain ⟨-, hafter⟩ := (leads_cons _ _ _ _).mp hshow
  exact ⟨q, q', u, rfl, hshow,
    shownPair_of_rdcur_seldig (mt (List.mem_append_left _) hr) (mt (List.mem_append_left _) htick) hread hafter⟩

end Sys2Proof.Machine
end
